-- ==== Sys2Proof/Word.lean ====
section
/-! DEFINITION. The words of the block: bit vectors for what the spec gives as bits, and nothing wider (20_memory.md R48).
Bit 0 is the least significant bit of every vector (00_scope.md section 5). -/

namespace Sys2Proof

/-- The two input lines as one 2-bit value `{dec_n, inc_n}`: bit 0 is `inc_n`, bit 1 is `dec_n` (R55, R56). -/
abbrev Levels := BitVec 2

/-- The width of `count` (R21): 7 bits, unsigned. -/
abbrev Count := BitVec 7

/-- The seven segment-drive lines, bit 0 segment a to bit 6 segment g, 1 is lit (R63). -/
abbrev SegBits := BitVec 7

/-- The four select lines: red units, red tens, green units, green tens from bit 0 (R64). -/
abbrev SelBits := BitVec 4

/-- A decimal digit, the index of the segment lookup: 0 to 9 only (R47, R65). -/
abbrev Digit := Fin 10

/-- A duration in microseconds of the abstract time base, an exact rational number (R16). -/
abbrev Micros := Rat

end Sys2Proof
end

