-- ==== Sys2Proof/Syntax.lean ====
section
/-! DEFINITION. The operations of the opcode table, one constructor per row (30_encoding.md R68), and the enumerations the
four formats encode. -/

namespace Sys2Proof

/-- The twenty rows of `spec/opcode_table.json`. No operation has an operand field or an immediate (R58). -/
inductive Instr where
  /-- IDLE, format RAW2 `0b11` (R71). -/
  | idle
  /-- DOWN, format RAW2 `0b10` (R77). -/
  | down
  /-- UP, format RAW2 `0b01` (R78). -/
  | up
  /-- BOTH, format RAW2 `0b00` (R79). -/
  | both
  /-- RENDER_NORMAL, format PS2 `0b00` (R112). -/
  | renderNormal
  /-- RENDER_DIMMED, format PS2 `0b01` (R114). -/
  | renderDimmed
  /-- RENDER_OFF, format PS2 `0b10` (R115, R126). -/
  | renderOff
  /-- MODE_RUN, format MODE2 `0b00`: one loop iteration (R150). -/
  | modeRun
  /-- MODE_SLEEP, format MODE2 `0b01`: wait for a falling edge (R127, R128, R130). -/
  | modeSleep
  /-- MODE_SETTLE, format MODE2 `0b10`: one timed step (R131, R132). -/
  | modeSettle
  /-- SEG_0, format DIGIT4 `0b0000` (R46, R108). -/
  | seg0
  /-- SEG_1, format DIGIT4 `0b0001`. -/
  | seg1
  /-- SEG_2, format DIGIT4 `0b0010`. -/
  | seg2
  /-- SEG_3, format DIGIT4 `0b0011`. -/
  | seg3
  /-- SEG_4, format DIGIT4 `0b0100`. -/
  | seg4
  /-- SEG_5, format DIGIT4 `0b0101`. -/
  | seg5
  /-- SEG_6, format DIGIT4 `0b0110`. -/
  | seg6
  /-- SEG_7, format DIGIT4 `0b0111`. -/
  | seg7
  /-- SEG_8, format DIGIT4 `0b1000`. -/
  | seg8
  /-- SEG_9, format DIGIT4 `0b1001`. -/
  | seg9
deriving DecidableEq, Repr

/-- The four formats of the opcode table (R68). The block never has to tell them apart by their bits: each is decoded in
its own place (log entry 1). -/
inductive Format where
  /-- The input sample `{dec_n, inc_n}`, 2 bits (R55). -/
  | raw2
  /-- The PowerState, 2 bits (R62). -/
  | ps2
  /-- The sequencer mode, 2 bits (R61). -/
  | mode2
  /-- The index of the segment lookup, 4 bits (R65). -/
  | digit4
deriving DecidableEq, Repr

/-- A word to be decoded: its format and its bits read as one number, bit 0 least significant. -/
structure InputWord where
  format : Format
  value  : Nat
deriving DecidableEq, Repr

/-- The operation the 2-bit sample selects, named by its effect on `count` (R57, 92 D4). -/
inductive RawOp where
  | idle | down | up | both
deriving DecidableEq, Repr

/-- PowerState, derived and never stored (R28, R91). -/
inductive PowerState where
  | normal | dimmed | off
deriving DecidableEq, Repr

/-- Color, derived and never stored (R28, R100). -/
inductive Color where
  | red | green
deriving DecidableEq, Repr

/-- The two digit positions of the display (R102, R106). -/
inductive Position where
  | units | tens
deriving DecidableEq, Repr

/-- What the sequencer is doing (R29). The fourth bit pattern is not reachable and has no value here (R61, 92 D28). -/
inductive Mode where
  | run | sleep | settle
deriving DecidableEq, Repr

end Sys2Proof
end

