-- ==== Sys2Proof/Config.lean ====
section
/-! DEFINITION. What an implementation fixes (the parameter record of 00_scope.md section 4), what the surroundings
present at the input ports, and the free values. -/

namespace Sys2Proof

/-- PIN_VARIANT: which of the two board variants' pin maps is built in (R14, R118). -/
inductive PinVariant where
  | variantA | variantB
deriving DecidableEq, Repr

/-- The parameter record (R9 to R15). `WellFormed.lean` says which records are legal; the nominal one is in
`Machine/Defaults.lean`. -/
structure Params where
  /-- DEBOUNCE_COUNT (R9). -/
  debounceCount    : Nat
  /-- DIM_THRESHOLD (R10). -/
  dimThreshold     : Nat
  /-- SHUTOFF_THRESHOLD (R11). -/
  shutoffThreshold : Nat
  /-- T_DIGIT, the time of one digit slot (R12). -/
  tDigit           : Micros
  /-- T_DIM, the additional off delay of the Dimmed state (R12). -/
  tDim             : Micros
  /-- T_SETTLE, the delay after a wake (R12). -/
  tSettle          : Micros
  /-- T_GAP, the time of a "blank it" (R113). -/
  tGap             : Micros
  /-- T_LOOP, the rest of the iteration (R113). -/
  tLoop            : Micros
  /-- SEG_TABLE, ten rows (R14, R46). -/
  segTable         : Vector SegBits 10
  /-- LAST_SAMPLE_RESET (R15, R24). -/
  lastSampleReset  : Levels
  /-- IDLE_UPDATES_LAST (R15, R73). -/
  idleUpdatesLast  : Bool
  /-- PIN_VARIANT, without effect on any logical signal (R14, R118). -/
  pinVariant       : PinVariant
deriving DecidableEq, Repr

/-- CD_W, the least number of bits that holds DEBOUNCE_COUNT (R22). -/
def Params.countdownWidth (p : Params) : Nat := Nat.clog 2 (p.debounceCount + 1)

/-- ACT_W, the least number of bits that holds SHUTOFF_THRESHOLD (R27). -/
def Params.activityWidth (p : Params) : Nat := Nat.clog 2 (p.shutoffThreshold + 1)

/-- The input ports at one instant: the power-on reset input and the levels of the two lines (R33). -/
structure Ports where
  rst   : Bool
  lines : Levels
deriving DecidableEq, Repr, Inhabited

/-- DESIGN CHOICE (log entry 3), safe: the `k`-th free choice of the environment, drawn where `State.stimuli` lists
nothing. It has no body: whatever is proved holds for every input sequence (R151). -/
opaque Config.environment : Nat → Ports

/-- DESIGN CHOICE (log entry 7), safe: the result of `countdown - 1` at `countdown = 0` for a given DEBOUNCE_COUNT
(which fixes the register's width). No rule states it, no reachable state computes it (R74, R80). -/
opaque Config.countdownUnderflow : Nat → Nat

end Sys2Proof
end

