-- ==== Sys2Proof/WellFormed.lean ====
section
/-! DEFINITION. Which words the encodings allow (30_encoding.md) and which parameter records are legal
(00_scope.md R9, R11, 70_reset_and_hazards.md R159). -/

namespace Sys2Proof

/-- How many bits a word of each format has (R55, R61, R62, R65). -/
def Format.width : Format → Nat
  | .raw2 => 2
  | .ps2 => 2
  | .mode2 => 2
  | .digit4 => 4

/-- How many values of each format are defined, counted from 0: all four of RAW2 (R59), three of PS2 and of MODE2
(R61, R62), ten of DIGIT4 (R65). -/
def Format.legalValues : Format → Nat
  | .raw2 => 4
  | .ps2 => 3
  | .mode2 => 3
  | .digit4 => 10

/-- The word fits its format's width. -/
def InputWord.fits (w : InputWord) : Bool := decide (w.value < 2 ^ w.format.width)

/-- The word is one of the defined ones of its format. -/
def InputWord.defined (w : InputWord) : Bool := decide (w.value < w.format.legalValues)

/-- A word the encodings allow. -/
def InputWord.wellFormed (w : InputWord) : Bool := w.fits && w.defined

/-- `DEBOUNCE_COUNT` is at least 1 (R9). -/
def Params.debounceLegal (p : Params) : Bool := decide (1 ≤ p.debounceCount)

/-- `0 < DIM_THRESHOLD < SHUTOFF_THRESHOLD` (R11). -/
def Params.thresholdsLegal (p : Params) : Bool :=
  decide (0 < p.dimThreshold) && decide (p.dimThreshold < p.shutoffThreshold)

/-- No duration is negative (R113, 92 D18). -/
def Params.durationsLegal (p : Params) : Bool :=
  decide (0 ≤ p.tDigit) && decide (0 ≤ p.tDim) && decide (0 ≤ p.tSettle) && decide (0 ≤ p.tGap) && decide (0 ≤ p.tLoop)

/-- A legal parameter record; a model refuses any other (R159, 92 D18). -/
def Params.legal (p : Params) : Bool := p.debounceLegal && p.thresholdsLegal && p.durationsLegal

end Sys2Proof
end

