-- ==== Sys2Proof/Decode.lean ====
section
/-! DEFINITION. Decoding: each format's bits to the operation they select (30_encoding.md), then the encoder. -/

namespace Sys2Proof

/-- Why a word is not decoded. -/
inductive DecodeError where
  /-- The word has a bit set above its format's width. -/
  | tooWide
  /-- PS2 `0b11`, not reachable (R62). -/
  | unreachablePowerState
  /-- MODE2 `0b11`, not reachable and without meaning (R61). -/
  | unreachableMode
  /-- DIGIT4 10 to 15, never presented (R47, R65). -/
  | digitOutOfRange
deriving DecidableEq, Repr

/-- The line `inc_n`, bit 0 of the sample (R56). -/
def incN (raw : Levels) : Bool := raw.getLsbD 0

/-- The line `dec_n`, bit 1 of the sample (R56). -/
def decN (raw : Levels) : Bool := raw.getLsbD 1

/-- The operation a sample selects (R57): the lines are active low, `inc_n` low alone is DOWN, `dec_n` low alone is UP. -/
def RawOp.ofBits (raw : Levels) : RawOp :=
  match decN raw, incN raw with
  | true, true => .idle
  | true, false => .down
  | false, true => .up
  | false, false => .both

/-- PowerState from its two bits (R62). -/
def PowerState.ofBits (b : Nat) : Except DecodeError PowerState :=
  match b with
  | 0 => .ok .normal
  | 1 => .ok .dimmed
  | 2 => .ok .off
  | 3 => .error .unreachablePowerState
  | _ => .error .tooWide

/-- The mode from its two bits (R61). -/
def Mode.ofBits (b : Nat) : Except DecodeError Mode :=
  match b with
  | 0 => .ok .run
  | 1 => .ok .sleep
  | 2 => .ok .settle
  | 3 => .error .unreachableMode
  | _ => .error .tooWide

/-- The table row of a sample's operation. -/
def RawOp.instr : RawOp → Instr
  | .idle => .idle
  | .down => .down
  | .up => .up
  | .both => .both

/-- The table row of a PowerState's render. -/
def PowerState.instr : PowerState → Instr
  | .normal => .renderNormal
  | .dimmed => .renderDimmed
  | .off => .renderOff

/-- The table row of a sequencer mode. -/
def Mode.instr : Mode → Instr
  | .run => .modeRun
  | .sleep => .modeSleep
  | .settle => .modeSettle

/-- The table row of a lookup index. -/
def digitInstr (d : Digit) : Instr :=
  match d with
  | 0 => .seg0
  | 1 => .seg1
  | 2 => .seg2
  | 3 => .seg3
  | 4 => .seg4
  | 5 => .seg5
  | 6 => .seg6
  | 7 => .seg7
  | 8 => .seg8
  | 9 => .seg9

/-- Decode a sample (R57): all four values are defined (R59). -/
def decodeRaw2 (v : Nat) : Except DecodeError Instr :=
  if v < 4 then .ok (RawOp.ofBits (BitVec.ofNat 2 v)).instr else .error .tooWide

/-- Decode a lookup index (R65). -/
def decodeDigit4 (v : Nat) : Except DecodeError Instr :=
  if h : v < 10 then .ok (digitInstr ⟨v, h⟩) else if v < 16 then .error .digitOutOfRange else .error .tooWide

/-- The operation a word selects, or the name of what is wrong with it. Total on every word. -/
def decode (w : InputWord) : Except DecodeError Instr :=
  match w.format with
  | .raw2 => decodeRaw2 w.value
  | .ps2 => (PowerState.ofBits w.value).map PowerState.instr
  | .mode2 => (Mode.ofBits w.value).map Mode.instr
  | .digit4 => decodeDigit4 w.value

/-- The word of each row, from the encoding tables of R57, R61, R62 and R65. -/
def encode : Instr → InputWord
  | .idle => ⟨.raw2, 0b11⟩
  | .down => ⟨.raw2, 0b10⟩
  | .up => ⟨.raw2, 0b01⟩
  | .both => ⟨.raw2, 0b00⟩
  | .renderNormal => ⟨.ps2, 0b00⟩
  | .renderDimmed => ⟨.ps2, 0b01⟩
  | .renderOff => ⟨.ps2, 0b10⟩
  | .modeRun => ⟨.mode2, 0b00⟩
  | .modeSleep => ⟨.mode2, 0b01⟩
  | .modeSettle => ⟨.mode2, 0b10⟩
  | .seg0 => ⟨.digit4, 0b0000⟩
  | .seg1 => ⟨.digit4, 0b0001⟩
  | .seg2 => ⟨.digit4, 0b0010⟩
  | .seg3 => ⟨.digit4, 0b0011⟩
  | .seg4 => ⟨.digit4, 0b0100⟩
  | .seg5 => ⟨.digit4, 0b0101⟩
  | .seg6 => ⟨.digit4, 0b0110⟩
  | .seg7 => ⟨.digit4, 0b0111⟩
  | .seg8 => ⟨.digit4, 0b1000⟩
  | .seg9 => ⟨.digit4, 0b1001⟩

/-- The two bits of the mode register (R61). -/
def Mode.bits : Mode → BitVec 2
  | .run => 0b00#2
  | .sleep => 0b01#2
  | .settle => 0b10#2

/-- The two bits of a PowerState (R62). -/
def PowerState.bits : PowerState → BitVec 2
  | .normal => 0b00#2
  | .dimmed => 0b01#2
  | .off => 0b10#2

/-- The bit of a Color (R62). -/
def Color.bits : Color → BitVec 1
  | .red => 0b0#1
  | .green => 0b1#1

/-- The bits of a sample's operation (R57). -/
def RawOp.bits : RawOp → Levels
  | .idle => 0b11#2
  | .down => 0b10#2
  | .up => 0b01#2
  | .both => 0b00#2

/-- DESIGN CHOICE (log entry 1): the format a bare table word is read in. No table row has more than four bits, so only
those are read; the four values a sample can have are the input word, the block's instruction word (R2, R55); the
values 4 to 15 can only be a lookup index. -/
def tableFormat (v : Nat) : Format := if v < 4 then .raw2 else .digit4

/-- The four low bits of a table word of `nbits` bits (bits at and above `nbits` are 0). -/
def tableValue (nbits w : Nat) : Nat := w % 2 ^ nbits % 16

/-- The instruction the decoder reads from a bare word of the opcode table. -/
def decodeTableWord (nbits w : Nat) : Option Instr :=
  match decode ⟨tableFormat (tableValue nbits w), tableValue nbits w⟩ with
  | .ok i => some i
  | .error _ => none

end Sys2Proof
end

