-- ==== Sys2Proof/Machine/Defaults.lean ====
section
/-! DEFINITION. The default segment table and the nominal parameter record (00_scope.md section 4). -/

namespace Sys2Proof.Machine

/-- PRESUMED (log entry 5), unsafe: the default SEG_TABLE (R108), the conventional numerals, segment a in bit 0. The spec
marks it as from general knowledge. -/
def defaultSegTable : Vector SegBits 10 :=
  #v[0x3F#7, 0x06#7, 0x5B#7, 0x4F#7, 0x66#7, 0x6D#7, 0x7D#7, 0x07#7, 0x7F#7, 0x6F#7]

/-- The nominal record (R9 to R15), the one a claim about "the" hardware uses. -/
def nominal : Params where
  debounceCount := 200
  dimThreshold := 100000
  shutoffThreshold := 300000
  tDigit := 50
  tDim := 200
  tSettle := 500000
  tGap := 0
  tLoop := 0
  segTable := defaultSegTable
  lastSampleReset := 0b11#2
  idleUpdatesLast := false
  pinVariant := .variantA

end Sys2Proof.Machine
end

