-- ==== Sys2Proof/Machine/State.lean ====
section
/-! DEFINITION. The state of the block as plain data (10_state.md R20), the reasons a step can stop, and the state after
reset (R35, R145). -/

namespace Sys2Proof.Machine

/-- One display slot: `seg`, `sel` and how long they are held (R111). -/
structure Slot where
  seg : SegBits
  sel : SelBits
  dur : Micros
deriving DecidableEq, Repr

/-- The outputs of one step (R34, R151, 92 D29): wires, the slot list and the duration label. The MODEL's own fields, not
registers; a step clears them before it writes them (log entry 9). -/
structure Wires where
  /-- A press was accepted in this step (R76). -/
  fire        : Bool
  /-- An IDLE sample found `count == 0` and `pendingRelease == 1` in this step (R71). -/
  zeroRelease : Bool
  /-- The Color of this iteration, `none` in a step that computes none (R28, R100). -/
  color       : Option Color
  /-- The PowerState of this iteration, `none` in a step that computes none (R28, R91). -/
  power       : Option PowerState
  /-- The segments the last lookup of this step returned (R46). -/
  rom         : Option SegBits
  /-- The slots of this step, in order (R111). -/
  slots       : List Slot
  /-- The duration label of a SETTLE step (R131, R151 (c)). -/
  delay       : Option Micros
deriving DecidableEq, Repr

/-- No event, nothing computed, nothing emitted. -/
def Wires.quiet : Wires where
  fire := false
  zeroRelease := false
  color := none
  power := none
  rom := none
  slots := []
  delay := none

/-- The state. The first ten fields are the registers of R20; the others are the model's own (INVENTORY.md). -/
structure State where
  /-- "current stable value, 0-99" (R21). -/
  count          : Count
  /-- "remaining stable samples required" (R22); CD_W bits, held as a natural number (92 D7). -/
  countdown      : Nat
  /-- Set by a fire, cleared by every IDLE sample (R23). -/
  pendingRelease : Bool
  /-- The most recent stored sample (R24). -/
  lastSample     : Levels
  /-- Iterations since the last clear (R26); ACT_W bits, held as a natural number (R27). -/
  activity       : Nat
  /-- What the sequencer is doing (R29). -/
  mode           : Mode
  /-- The enable of the two wake sources (R30). -/
  wakeEn         : Bool
  /-- The line levels the wake detector last saw (R31). -/
  wakeRef        : Levels
  /-- The seven segment lines (R32). -/
  seg            : SegBits
  /-- The four select lines (R32). -/
  sel            : SelBits
  /-- The outputs of the last step (R34, R151). -/
  wires          : Wires
  /-- The levels on `{dec_n, inc_n}` the block took last (R33). -/
  lines          : Levels
  /-- What the input ports carry at the coming steps, the next first (log entry 3). -/
  stimuli        : List Ports
  /-- How many free stimuli have been drawn (log entry 3). -/
  drawn          : Nat
  /-- The parameter record; no step changes it (log entry 4). -/
  params         : Params
deriving DecidableEq, Repr

/-- Faults: none. "The block raises no synchronous exception" and "A model's RUN step is total" (R120). -/
inductive Fault where
deriving DecidableEq, Repr

/-- Refusals. -/
inductive Refusal where
  /-- Raised by `exec` for an instruction without a meaning; safe. No arm raises it. -/
  | notModelled (mnemonic : String)
  /-- Raised by every operation and by reset where the parameter record is outside its legal ranges (R11, R159, 92 D18:
  "A model refuses such records"); safe. -/
  | illegalParameters
  /-- Raised by every operation where `count` is 100 to 127, a value no state reachable from reset holds (92 D28: "refuses
  a start state that contains them"); safe. -/
  | unreachableCount
  /-- Raised by every operation where `sel` has two or more bits set, which no reachable state has (92 D28); safe. -/
  | unreachableSelect
deriving DecidableEq, Repr

/-- The registers of R35 over a parameter record, with the environment's part as given. DESIGN CHOICE (log entry 8),
unsafe: `wake_ref`, which the spec leaves unspecified, is `0b00`. -/
def State.afterReset (p : Params) (lines : Levels) (stimuli : List Ports) (drawn : Nat) : State where
  count := 0
  countdown := p.debounceCount
  pendingRelease := false
  lastSample := p.lastSampleReset
  activity := 0
  mode := .run
  wakeEn := false
  wakeRef := 0b00#2
  seg := 0
  sel := 0
  wires := Wires.quiet
  lines := lines
  stimuli := stimuli
  drawn := drawn
  params := p

/-- The machine right after reset (R35, R145) with the nominal record, nothing listed at the ports, and the lines at
their pulled-up level (DESIGN CHOICE, log entry 10). -/
def State.reset : State := State.afterReset nominal 0b11#2 [] 0

end Sys2Proof.Machine
end

