-- ==== Sys2Proof/Machine/Operands.lean ====
section
/-! DEFINITION. Operand assembly: the saturating count operations, the decimal digits, the segment lookup and the select
values. -/

namespace Sys2Proof.Machine

/-- `max(count - 1, 0)`, computed exactly and narrowed (R77, R80). -/
def countDown (c : Count) : Count := BitVec.ofInt 7 (max ((c.toNat : Int) - 1) 0)

/-- `min(count + 1, 99)`, computed exactly and narrowed (R78, R80). -/
def countUp (c : Count) : Count := BitVec.ofNat 7 (min (c.toNat + 1) 99)

/-- The units digit, `count mod 10` (R102). -/
def unitsDigit (c : Count) : Digit := Fin.ofNat 10 (c.toNat % 10)

/-- The tens digit, `count div 10` (R102); a digit because every operation refuses `count` above 99. -/
def tensDigit (c : Count) : Digit := Fin.ofNat 10 (c.toNat / 10)

/-- `SegRom(d)`: the lookup, a pure read of the parameter SEG_TABLE (R46). -/
def segRom (p : Params) (d : Digit) : SegBits := p.segTable[d]

/-- `selv(p, color)`: exactly one select line (R106). -/
def selv : Position → Color → SelBits
  | .units, .red => 0b0001#4
  | .tens, .red => 0b0010#4
  | .units, .green => 0b0100#4
  | .tens, .green => 0b1000#4

/-- `sel` holds no digit or exactly one (R20, R32). -/
def selLegal (e : SelBits) : Bool :=
  e == 0b0000#4 || e == 0b0001#4 || e == 0b0010#4 || e == 0b0100#4 || e == 0b1000#4

end Sys2Proof.Machine
end

