-- ==== Sys2Proof/Machine/Flags.lean ====
section
/-! DEFINITION. The derived signals: events, Color, PowerState, the wake detector and the status port. -/

namespace Sys2Proof.Machine

/-- Color: Green exactly when `count == 1` (R100). -/
def colorOf (c : Count) : Color := if c == 1#7 then .green else .red

/-- SELECT: the PowerState of an `activity` value, the Off test first (R91). -/
def powerState (p : Params) (a : Nat) : PowerState :=
  if p.shutoffThreshold ≤ a then .off else if p.dimThreshold ≤ a then .dimmed else .normal

/-- SELECT on the state as it stands (R92). -/
def State.powerState (s : State) : PowerState := Machine.powerState s.params s.activity

/-- A non-idle sample is matching when it equals `lastSample` and no release is pending (R74). -/
def State.matching (s : State) (raw : Levels) : Bool := raw == s.lastSample && !s.pendingRelease

/-- `countdown - 1` (R74). At 0 no rule states the result, and it is a free value (log entry 7). -/
def State.countdownLessOne (s : State) : Nat :=
  if s.countdown = 0 then Config.countdownUnderflow s.params.debounceCount else s.countdown - 1

/-- A sample of value `raw` is accepted in this iteration (R76). -/
def State.firesOn (s : State) (raw : Levels) : Bool := s.matching raw && s.countdownLessOne == 0

/-- The event `zero_release` of an IDLE sample, from the values before its writes (R71). -/
def State.idleZeroRelease (s : State) : Bool := s.count == 0#7 && s.pendingRelease

/-- The causes of the Off entry, after `sample` (R125). -/
def State.offCause (s : State) : Bool := s.wires.zeroRelease || s.powerState == .off

/-- The wake detector's falling edge: some line was high and is low (R128). Both at once are one edge (R129). -/
def fallingEdge (ref lv : Levels) : Bool :=
  (ref.getLsbD 0 && !lv.getLsbD 0) || (ref.getLsbD 1 && !lv.getLsbD 1)

/-- The status output `asleep` (R33). -/
def State.asleep (s : State) : Bool := s.mode == .sleep

end Sys2Proof.Machine
end

