-- ==== Sys2Proof/Machine/Ops.lean ====
section
/-! DEFINITION. The named operations over the registers and the ports. The Off entry, the wake, the return and the reset
are each ONE operation here. -/

namespace Sys2Proof.Machine

/-- What an operation answers. -/
abbrev Result := Host.Outcome State Fault Refusal

/-! ## What a start state must be, and which mode performs an operation -/

/-- Perform `f`, or refuse what the spec says a model refuses: an illegal parameter record (R159, 92 D18) or an
unreachable encoding in a register (92 D28). -/
def State.guarded (s : State) (f : State → State) : Result :=
  if s.params.legal = false then .refused .illegalParameters
  else if 99 < s.count.toNat then .refused .unreachableCount
  else if selLegal s.sel = false then .refused .unreachableSelect
  else .next (f s)

/-- Perform `f` in mode `m`. DEDUCED (log entry 2), safe: in another mode the operation is not performed (R60, R70, R90,
R119, R127, R131) and the state is as it was. -/
def State.inMode (m : Mode) (f : State → State) (s : State) : State := if s.mode = m then f s else s

/-! ## Ports and wires -/

/-- What the input ports carry at the next step: the next listed stimulus, or a free choice of the environment
(log entry 3). -/
def State.ports (s : State) : Ports :=
  match s.stimuli with
  | p :: _ => p
  | [] => Config.environment s.drawn

/-- Take the levels now on the lines (R50); the stimulus is used up. -/
def State.takePorts (s : State) : State :=
  match s.stimuli with
  | p :: rest => { s with lines := p.lines, stimuli := rest }
  | [] => { s with lines := (Config.environment s.drawn).lines, drawn := s.drawn + 1 }

/-- The wires at the start of a step (log entry 9). -/
def State.clearWires (s : State) : State := { s with wires := Wires.quiet }

/-! ## The display outputs -/

/-- `emit(seg, sel, dur)`: write both outputs as one update and hold them, one slot of the trace (R111). -/
def State.emit (s : State) (e : SegBits) (l : SelBits) (d : Micros) : State :=
  { s with seg := e, sel := l, wires := { s.wires with slots := s.wires.slots ++ [⟨e, l, d⟩] } }

/-- A blank slot: no digit selected and no segment driven (R109). -/
def State.blank (s : State) (d : Micros) : State := s.emit 0 0 d

/-- One read of the segment lookup (R46); the wire `rom` shows what it returned. -/
def State.lookup (s : State) (d : Digit) : State :=
  { s with wires := { s.wires with rom := some (segRom s.params d) } }

/-- A lit slot: digit `d` at position `p` in the Color of the count (R105, R110). -/
def State.light (s : State) (p : Position) (d : Digit) : State :=
  (s.lookup d).emit (segRom s.params d) (selv p (colorOf s.count)) s.params.tDigit

/-! ## The inactivity timer -/

/-- COLOR and SELECT, between `sample` and the render (R90, R92, R100, R150), also in an iteration that ends in an Off entry
(log entry 22, DEDUCED). -/
def State.select (s : State) : State :=
  { s with wires := { s.wires with color := some (colorOf s.count), power := some s.powerState } }

/-- TICK at the end of a rendered iteration: one more, but for an iteration with a fire (R93, R150). -/
def State.tick (s : State) : State := if s.wires.fire then s else { s with activity := s.activity + 1 }

/-! ## The Off entry, the wake, the return, the reset -/

/-- SLEEP_ENTER, the analogue of taking an exception (R126): blank, clear `activity`, load the wake reference with the
levels now on the lines (those of the iteration's sample: log entry 11, DEDUCED), enable the wake and sleep. Nothing is
saved, because nothing is lost. The blank is one emission (log entry 21, DEDUCED). -/
def State.sleepEnter (s : State) : State :=
  { s.blank 0 with activity := 0, wakeRef := s.lines, wakeEn := true, mode := .sleep }

/-- WAKE (R130): wakes are disabled again and the settle delay begins. -/
def State.wake (s : State) : State := { s with wakeEn := false, mode := .settle }

/-- The wake detector on the levels just taken (R128): the reference follows the lines, and a falling edge wakes where the
wake is enabled (R130). The reference follows the waking change too (log entry 12, DEDUCED). -/
def State.examineLines (s : State) : State :=
  if s.wakeEn && fallingEdge s.wakeRef s.lines then { s with wakeRef := s.lines }.wake else { s with wakeRef := s.lines }

/-- RESUME, the return (R132): nothing is restored. The label is the duration of the settle step (R131). -/
def State.resume (s : State) : State :=
  { s with mode := .run, wires := { s.wires with delay := some s.params.tSettle } }

/-- The registers' values while `rst` is asserted and at its release, in any mode (R145). -/
def State.powerOn (s : State) : State :=
  let t := s.takePorts
  State.afterReset t.params t.lines t.stimuli t.drawn

/-- A step with `rst` asserted (R145); an illegal parameter record is refused (R159). -/
def State.takeReset (s : State) : Result :=
  if s.params.legal = false then .refused .illegalParameters else .next s.powerOn

/-! ## Placing an instruction for the next step -/

/-- The environment presents `raw` at the next step, and the block is in the mode that samples (R60), with `wake_en` as it
is there (R30). -/
def State.presentSample (s : State) (raw : Levels) : State :=
  { s with mode := .run, wakeEn := false, stimuli := ⟨false, raw⟩ :: s.stimuli }

/-- The next iteration looks digit `d` up: it shows the count `d` at full brightness, and no button is pressed. -/
def State.presentDigit (s : State) (d : Nat) : State :=
  { s.presentSample 0b11#2 with count := BitVec.ofNat 7 d, activity := 0 }

/-- Place the table word `v` where the next step decodes it (log entries 1 and 3). A value 10 to 15 selects nothing. -/
def State.placeTableWord (s : State) (v : Nat) : State :=
  match tableFormat v with
  | .raw2 => s.presentSample (BitVec.ofNat 2 v)
  | _ => if v < 10 then s.presentDigit v else s

end Sys2Proof.Machine
end

