-- ==== Sys2Proof/Machine/SegRom.lean ====
section
/-! DEFINITION. The ten rows of the segment lookup (20_memory.md R46, 42_display_renderer.md R107, R108). A read has no side
effect and is not tied to a mode (log entry 19); what it returns stands on the wire `rom`. -/

namespace Sys2Proof.Machine

/-- SEG_0: the read of row 0. -/
def execSeg0 (s : State) : Result := s.guarded fun t => t.lookup 0

/-- SEG_1: the read of row 1. -/
def execSeg1 (s : State) : Result := s.guarded fun t => t.lookup 1

/-- SEG_2: the read of row 2. -/
def execSeg2 (s : State) : Result := s.guarded fun t => t.lookup 2

/-- SEG_3: the read of row 3. -/
def execSeg3 (s : State) : Result := s.guarded fun t => t.lookup 3

/-- SEG_4: the read of row 4. -/
def execSeg4 (s : State) : Result := s.guarded fun t => t.lookup 4

/-- SEG_5: the read of row 5. -/
def execSeg5 (s : State) : Result := s.guarded fun t => t.lookup 5

/-- SEG_6: the read of row 6. -/
def execSeg6 (s : State) : Result := s.guarded fun t => t.lookup 6

/-- SEG_7: the read of row 7. -/
def execSeg7 (s : State) : Result := s.guarded fun t => t.lookup 7

/-- SEG_8: the read of row 8. -/
def execSeg8 (s : State) : Result := s.guarded fun t => t.lookup 8

/-- SEG_9: the read of row 9. -/
def execSeg9 (s : State) : Result := s.guarded fun t => t.lookup 9

end Sys2Proof.Machine
end

