-- ==== Sys2Proof/Machine/Debounce.lean ====
section
/-! DEFINITION. debounce_counter_fsm: the operation `sample` and its four behaviours (40_debounce_counter.md). -/

namespace Sys2Proof.Machine

/-- IDLE (R71): the event from the values before the writes, the reload and the clear. `lastSample` is stored only with
IDLE_UPDATES_LAST (R73). -/
def State.sampleIdle (s : State) : State :=
  { s with
    countdown := s.params.debounceCount
    pendingRelease := false
    lastSample := if s.params.idleUpdatesLast then 0b11#2 else s.lastSample
    wires := { s.wires with fire := false, zeroRelease := s.idleZeroRelease } }

/-- The press is accepted (R76), with the transition of the selected operation. -/
def State.acceptPress (s : State) (transition : Count → Count) : State :=
  { s with
    count := transition s.count
    countdown := s.params.debounceCount
    pendingRelease := true
    activity := 0
    wires := { s.wires with fire := true } }

/-- The non-idle branch of `sample` (R70): fire (R76), matching sample (R74), or bounce or held (R75); the sample is stored
at the end on every branch (R72). -/
def State.samplePress (s : State) (raw : Levels) (transition : Count → Count) : State :=
  let t := { s with wires := { s.wires with fire := false, zeroRelease := false } }
  let u :=
    if s.firesOn raw then t.acceptPress transition
    else if s.matching raw then { t with countdown := s.countdownLessOne }
    else { t with countdown := s.params.debounceCount }
  { u with lastSample := raw }

/-- DOWN (R77). -/
def State.sampleDown (s : State) : State := s.samplePress 0b10#2 countDown

/-- UP (R78). -/
def State.sampleUp (s : State) : State := s.samplePress 0b01#2 countUp

/-- BOTH (R79): the empty transition. -/
def State.sampleBoth (s : State) : State := s.samplePress 0b00#2 id

/-- `sample` with the operation its value selects (R70). It returns `count` after the update (R81): the register. -/
def State.sample (s : State) (op : RawOp) : State :=
  match op with
  | .idle => s.sampleIdle
  | .down => s.sampleDown
  | .up => s.sampleUp
  | .both => s.sampleBoth

/-- IDLE (R71). -/
def execIdle (s : State) : Result := s.guarded (State.inMode .run State.sampleIdle)

/-- DOWN (R77). -/
def execDown (s : State) : Result := s.guarded (State.inMode .run State.sampleDown)

/-- UP (R78). -/
def execUp (s : State) : Result := s.guarded (State.inMode .run State.sampleUp)

/-- BOTH (R79). -/
def execBoth (s : State) : Result := s.guarded (State.inMode .run State.sampleBoth)

end Sys2Proof.Machine
end

