-- ==== Sys2Proof/Machine/Renderer.lean ====
section
/-! DEFINITION. multiplexed_7seg_driver: the three renders (42_display_renderer.md). -/

namespace Sys2Proof.Machine

/-- The third slot: the tens digit from 10 up, else an equivalent blank interval (R103, R104). -/
def State.tensSlot (s : State) : State :=
  if 10 ≤ s.count.toNat then s.light .tens (tensDigit s.count) else s.blank s.params.tDigit

/-- The four slots of a Normal or Dimmed render, with the blank times after the two digit slots. -/
def State.renderDigits (s : State) (afterUnits afterTens : Micros) : State :=
  (((s.light .units (unitsDigit s.count)).blank afterUnits).tensSlot).blank afterTens

/-- RENDER_NORMAL (R112). -/
def State.renderNormal (s : State) : State :=
  s.renderDigits s.params.tGap (s.params.tGap + s.params.tLoop)

/-- RENDER_DIMMED (R114): the extra off delay follows both digit slots, also a blank third one. -/
def State.renderDimmed (s : State) : State :=
  s.renderDigits (s.params.tGap + s.params.tDim) (s.params.tGap + s.params.tDim + s.params.tLoop)

/-- The render a PowerState selects; Off is the Off entry (R115). -/
def State.render (s : State) (ps : PowerState) : State :=
  match ps with
  | .normal => s.renderNormal
  | .dimmed => s.renderDimmed
  | .off => s.sleepEnter

/-- RENDER_NORMAL (R112). -/
def execRenderNormal (s : State) : Result := s.guarded (State.inMode .run State.renderNormal)

/-- RENDER_DIMMED (R114). -/
def execRenderDimmed (s : State) : Result := s.guarded (State.inMode .run State.renderDimmed)

/-- RENDER_OFF (R115): one blank slot, `activity` cleared, the sleep entry of R126. -/
def execRenderOff (s : State) : Result := s.guarded (State.inMode .run State.sleepEnter)

end Sys2Proof.Machine
end

