-- ==== Sys2Proof/Machine/Sequencer.lean ====
section
/-! DEFINITION. The sequencer: one step of each mode (70_reset_and_hazards.md R150, R151). -/

namespace Sys2Proof.Machine

/-- The start of an iteration: the wires are quiet and both lines are taken at the same instant (R50, R70). -/
def State.beginIteration (s : State) : State := s.clearWires.takePorts

/-- The part of the iteration that follows `sample`: COLOR, SELECT, then the Off entry, or one render and TICK (R150). -/
def State.finishIteration (s : State) : State :=
  let t := s.select
  if t.offCause then t.sleepEnter else (t.render t.powerState).tick

/-- The RUN iteration (R150): the lines select the operation of `sample`. -/
def State.iteration (s : State) : State :=
  (s.beginIteration.sample (RawOp.ofBits s.beginIteration.lines)).finishIteration

/-- One examined change of the lines in SLEEP (R127, R128, R151 (b)). -/
def State.sleepStep (s : State) : State := s.clearWires.takePorts.examineLines

/-- The timed step of SETTLE (R131, R151 (c)): no input is taken (log entry 20, DEDUCED). The stimulus whose `rst` was
looked at is the next sample's (log entry 24, DESIGN CHOICE). -/
def State.settleStep (s : State) : State := s.clearWires.resume

/-- MODE_RUN (R150). -/
def execModeRun (s : State) : Result := s.guarded (State.inMode .run State.iteration)

/-- MODE_SLEEP (R127). -/
def execModeSleep (s : State) : Result := s.guarded (State.inMode .sleep State.sleepStep)

/-- MODE_SETTLE (R131, R132). -/
def execModeSettle (s : State) : Result := s.guarded (State.inMode .settle State.settleStep)

end Sys2Proof.Machine
end

