-- ==== Sys2Proof/Machine/Dispatch.lean ====
section
/-! DEFINITION. One arm per row of the opcode table. -/

namespace Sys2Proof.Machine

def exec (i : Instr) (s : State) : Host.Outcome State Fault Refusal :=
  match i with
  | .idle => Sys2Proof.Machine.execIdle s
  | .down => Sys2Proof.Machine.execDown s
  | .up => Sys2Proof.Machine.execUp s
  | .both => Sys2Proof.Machine.execBoth s
  | .renderNormal => Sys2Proof.Machine.execRenderNormal s
  | .renderDimmed => Sys2Proof.Machine.execRenderDimmed s
  | .renderOff => Sys2Proof.Machine.execRenderOff s
  | .modeRun => Sys2Proof.Machine.execModeRun s
  | .modeSleep => Sys2Proof.Machine.execModeSleep s
  | .modeSettle => Sys2Proof.Machine.execModeSettle s
  | .seg0 => Sys2Proof.Machine.execSeg0 s
  | .seg1 => Sys2Proof.Machine.execSeg1 s
  | .seg2 => Sys2Proof.Machine.execSeg2 s
  | .seg3 => Sys2Proof.Machine.execSeg3 s
  | .seg4 => Sys2Proof.Machine.execSeg4 s
  | .seg5 => Sys2Proof.Machine.execSeg5 s
  | .seg6 => Sys2Proof.Machine.execSeg6 s
  | .seg7 => Sys2Proof.Machine.execSeg7 s
  | .seg8 => Sys2Proof.Machine.execSeg8 s
  | .seg9 => Sys2Proof.Machine.execSeg9 s

end Sys2Proof.Machine
end

