-- ==== Sys2Proof/Machine/Step.lean ====
section
/-! DEFINITION. One step: the reset input first, else the operation that `mode` selects (R145, R151). -/

namespace Sys2Proof.Machine

/-- The instruction of the sequencer: the MODE2 row of the mode register (R61, R68). -/
def State.sequenced (s : State) : Instr := s.mode.instr

/-- One step of the block (R151). `rst` may be asserted in any mode (R145). DESIGN CHOICE (log entries 13 and 24), unsafe
for a claim about the step after a RESUME: `rst` is looked at once per step, at the next stimulus, and a SETTLE step leaves
that stimulus to the next sample, so that no reset first rises between RESUME and that sample. -/
def step (s : State) : Host.Outcome State Fault Refusal :=
  if s.ports.rst then s.takeReset else exec s.sequenced s

/-- The table word stored where the next step decodes it (log entry 3): a sample on the input ports, a digit in the
count. -/
def State.withFetchWord (s : State) (nbits w : Nat) : State := s.placeTableWord (tableValue nbits w)

end Sys2Proof.Machine
end

