-- ==== Sys2Proof/Safety.lean ====
section
/-! DEFINITION. What a good state is (10_state.md R37), and the runs the claims speak of. -/

namespace Sys2Proof.Machine

/-- The states no operation refuses: a legal parameter record (R159) and no unreachable encoding (92 D28). -/
def State.admissible (s : State) : Bool := s.params.legal && decide (s.count.toNat ≤ 99) && selLegal s.sel

/-- The invariant of the block at an iteration boundary. -/
structure Inv (s : State) : Prop where
  /-- The parameter record is legal (R9, R11, 92 D18). -/
  params   : s.params.legal = true
  /-- R37 (a), the saturation invariant. -/
  count    : s.count.toNat ≤ 99
  /-- R37 (b). -/
  armed    : 1 ≤ s.countdown ∧ s.countdown ≤ s.params.debounceCount
  /-- R37 (c). -/
  held     : s.pendingRelease = true → s.countdown = s.params.debounceCount
  /-- R37 (d). -/
  activity : s.activity ≤ s.params.shutoffThreshold
  /-- R37 (e). -/
  wake     : s.wakeEn = true ↔ s.mode = .sleep
  /-- R37 (f). -/
  dark     : s.mode ≠ .run → s.seg = 0 ∧ s.sel = 0
  /-- R32: at most one select line. -/
  select   : selLegal s.sel = true
  /-- R131, R142: `activity` is held at 0 outside RUN. -/
  asleep   : s.mode ≠ .run → s.activity = 0

/-- Several operations one after another. -/
def execAll : List Instr → State → Result
  | [], s => .next s
  | i :: is, s =>
    match exec i s with
    | .next t => execAll is t
    | .fault f => .fault f
    | .refused r => .refused r

/-- A blank slot (R109). -/
def Slot.isBlank (x : Slot) : Prop := x.seg = 0 ∧ x.sel = 0

/-- A slot that lights digit `d` at position `p` in colour `c` (R110). -/
def Slot.lights (x : Slot) (params : Params) (p : Position) (d : Digit) (c : Color) : Prop :=
  x.seg = segRom params d ∧ x.sel = selv p c

/-- The operation the sample of the next iteration selects (R57, R70). -/
def State.nextOp (s : State) : RawOp := RawOp.ofBits s.ports.lines

/-- What a fire of each operation does to the count, on natural numbers (R57). -/
def sampleTransition : RawOp → Nat → Nat
  | .idle, c => c
  | .down, c => c - 1
  | .up, c => min (c + 1) 99
  | .both, c => c

/-- How long a list of slots lasts (R104, R116). -/
def slotTime (xs : List Slot) : Micros := (xs.map Slot.dur).sum

end Sys2Proof.Machine
end

