-- ==== Sys2Proof/Certificates/Slice0/Obligations.lean ====
section
/-! DEFINITION. The statements about the machine, from the numbered rules of spec/. -/

open Sys2Proof Sys2Proof.Machine

/-! ## Encodings -/

/-- A word decodes to an instruction exactly when it is that instruction's word: the round trip in both directions, over
every word of every format (30_encoding.md R57, R61, R62, R65, R68). -/
def Obligations.DecodeAgreesWithEncode : Prop :=
  ∀ (w : InputWord) (i : Instr), decode w = .ok i ↔ encode i = w

/-- The decoder accepts exactly the defined words of each format and rejects every other by name: a word too wide for its
format, PS2 and MODE2 `0b11`, DIGIT4 10 to 15 (R47, R59, R61, R62, R65; the refusals are 92 D28). -/
def Obligations.DecodeAcceptsExactlyTheDefinedWords : Prop :=
  ∀ w : InputWord,
    ((∃ i, decode w = .ok i) ↔ w.wellFormed = true) ∧
    (2 ^ w.format.width ≤ w.value → decode w = .error .tooWide) ∧
    (w.format = .ps2 → w.value = 3 → decode w = .error .unreachablePowerState) ∧
    (w.format = .mode2 → w.value = 3 → decode w = .error .unreachableMode) ∧
    (w.format = .digit4 → 10 ≤ w.value → w.value < 16 → decode w = .error .digitOutOfRange)

/-- Words written out bit by bit from R57, R61, R62 and R65 decode to the rows they stand for. -/
def Obligations.WordsOfEveryFormatDecode : Prop :=
  decode ⟨.raw2, 0b11⟩ = .ok .idle ∧ decode ⟨.raw2, 0b10⟩ = .ok .down ∧ decode ⟨.raw2, 0b01⟩ = .ok .up ∧
  decode ⟨.raw2, 0b00⟩ = .ok .both ∧ decode ⟨.ps2, 0b01⟩ = .ok .renderDimmed ∧ decode ⟨.mode2, 0b10⟩ = .ok .modeSettle ∧
  decode ⟨.digit4, 0b0111⟩ = .ok .seg7 ∧ decode ⟨.digit4, 0b1001⟩ = .ok .seg9

/-! ## The step -/

/-- A step runs the decoded instruction: with `rst` not asserted, where the bits of the mode register decode to `i`, one
step is `exec i`, with nothing around it (R61, R151). -/
def Obligations.StepRunsTheDecodedMode : Prop :=
  ∀ (s : State) (i : Instr), s.ports.rst = false → decode ⟨.mode2, s.mode.bits.toNat⟩ = .ok i → step s = exec i s

/-- The RUN iteration is the composition R150 gives: the sample the lines select, COLOR and SELECT, then the Off entry
where its causes hold, else the render of the PowerState and TICK. That the Off entry loads the levels sampled at the
start of the iteration is log entry 11 (DEDUCED), that it keeps the Color and PowerState wires log entry 22 (DEDUCED). -/
def Obligations.RunIterationComposesItsOperations : Prop :=
  ∀ s : State, s.admissible = true → s.mode = .run →
    ∃ u v : State,
      exec (RawOp.ofBits s.ports.lines).instr { s.takePorts with wires := Wires.quiet } = .next u ∧
      v = { u with wires := { u.wires with
              color := some (if u.count.toNat = 1 then .green else .red)
              power := some (powerState u.params u.activity) } } ∧
      (u.wires.zeroRelease = true ∨ powerState u.params u.activity = .off →
        ∃ r : State, exec .renderOff v = .next r ∧ exec .modeRun s = .next r ∧
          r = { v with
            seg := 0
            sel := 0
            activity := 0
            wakeRef := s.ports.lines
            wakeEn := true
            mode := .sleep
            wires := { v.wires with slots := [⟨0, 0, 0⟩] } }) ∧
      (¬ (u.wires.zeroRelease = true ∨ powerState u.params u.activity = .off) →
        ∃ r : State, exec (powerState u.params u.activity).instr v = .next r ∧
          exec .modeRun s = .next { r with activity := if u.wires.fire then r.activity else r.activity + 1 })

/-! ## debounce_counter_fsm -/

/-- IDLE (R71), with IDLE_UPDATES_LAST at its default: `zero_release` from the values before the writes, the reload, the
clear, and nothing else; and in an iteration whose sample is IDLE, `zero_release` causes the Off entry. -/
def Obligations.IdleSampleResult : Prop :=
  (∀ s : State, s.admissible = true → s.mode = .run → s.params.idleUpdatesLast = false →
    exec .idle s = .next { s with
      countdown := s.params.debounceCount
      pendingRelease := false
      wires := { s.wires with fire := false, zeroRelease := decide (s.count.toNat = 0 ∧ s.pendingRelease = true) } }) ∧
  (∀ s : State, s.admissible = true → s.mode = .run → s.ports = ⟨false, 0b11#2⟩ → s.count.toNat = 0 →
    s.pendingRelease = true → ∃ t, step s = .next t ∧ t.wires.zeroRelease = true ∧ t.mode = .sleep)

/-- With IDLE_UPDATES_LAST true, IDLE also stores its sample (the parameter is the spec's decision 92 D5). -/
def Obligations.IdleStoresItsSampleUnderTheParameter : Prop :=
  ∀ s : State, s.admissible = true → s.mode = .run → s.params.idleUpdatesLast = true →
    exec .idle s = .next { s with
      countdown := s.params.debounceCount
      pendingRelease := false
      lastSample := 0b11#2
      wires := { s.wires with fire := false, zeroRelease := decide (s.count.toNat = 0 ∧ s.pendingRelease = true) } }

/-- DOWN (R77): the non-idle branch with the floor at 0; corner cases (a) and (b): a fire that leaves 0 makes the following
IDLE raise `zero_release`; (c): a fire at 2 makes the Color Green in the same iteration. -/
def Obligations.DownSampleResult : Prop :=
  (∀ s : State, s.admissible = true → s.mode = .run → 1 ≤ s.countdown →
    exec .down s = .next { s with
      count := if s.lastSample = 0b10#2 ∧ s.pendingRelease = false ∧ s.countdown = 1
        then BitVec.ofNat 7 (s.count.toNat - 1) else s.count
      countdown := if s.lastSample = 0b10#2 ∧ s.pendingRelease = false ∧ s.countdown ≠ 1
        then s.countdown - 1 else s.params.debounceCount
      pendingRelease := decide (s.lastSample = 0b10#2 ∧ s.countdown = 1) || s.pendingRelease
      activity := if s.lastSample = 0b10#2 ∧ s.pendingRelease = false ∧ s.countdown = 1 then 0 else s.activity
      lastSample := 0b10#2
      wires := { s.wires with
        fire := decide (s.lastSample = 0b10#2 ∧ s.pendingRelease = false ∧ s.countdown = 1)
        zeroRelease := false } }) ∧
  (∀ s t : State, exec .down s = .next t → s.mode = .run → t.wires.fire = true → s.count.toNat ≤ 1 →
    ∃ u, exec .idle t = .next u ∧ u.wires.zeroRelease = true) ∧
  (∀ s t : State, step s = .next t → s.mode = .run → s.ports = ⟨false, 0b10#2⟩ → t.wires.fire = true →
    s.count.toNat = 2 → t.count.toNat = 1 ∧ t.wires.color = some .green)

/-- UP (R78): the non-idle branch with the ceiling at 99; corner case (b): a fire at 0 gives 1 and Green. -/
def Obligations.UpSampleResult : Prop :=
  (∀ s : State, s.admissible = true → s.mode = .run → 1 ≤ s.countdown →
    exec .up s = .next { s with
      count := if s.lastSample = 0b01#2 ∧ s.pendingRelease = false ∧ s.countdown = 1
        then BitVec.ofNat 7 (min (s.count.toNat + 1) 99) else s.count
      countdown := if s.lastSample = 0b01#2 ∧ s.pendingRelease = false ∧ s.countdown ≠ 1
        then s.countdown - 1 else s.params.debounceCount
      pendingRelease := decide (s.lastSample = 0b01#2 ∧ s.countdown = 1) || s.pendingRelease
      activity := if s.lastSample = 0b01#2 ∧ s.pendingRelease = false ∧ s.countdown = 1 then 0 else s.activity
      lastSample := 0b01#2
      wires := { s.wires with
        fire := decide (s.lastSample = 0b01#2 ∧ s.pendingRelease = false ∧ s.countdown = 1)
        zeroRelease := false } }) ∧
  (∀ s t : State, step s = .next t → s.mode = .run → s.ports = ⟨false, 0b01#2⟩ → t.wires.fire = true →
    s.count.toNat = 0 → t.count.toNat = 1 ∧ t.wires.color = some .green)

/-- BOTH (R79): the non-idle branch, the count never written; corner case (a): after a fire a single-button sample without
an IDLE between does not count. -/
def Obligations.BothSampleResult : Prop :=
  (∀ s : State, s.admissible = true → s.mode = .run → 1 ≤ s.countdown →
    exec .both s = .next { s with
      countdown := if s.lastSample = 0b00#2 ∧ s.pendingRelease = false ∧ s.countdown ≠ 1
        then s.countdown - 1 else s.params.debounceCount
      pendingRelease := decide (s.lastSample = 0b00#2 ∧ s.countdown = 1) || s.pendingRelease
      activity := if s.lastSample = 0b00#2 ∧ s.pendingRelease = false ∧ s.countdown = 1 then 0 else s.activity
      lastSample := 0b00#2
      wires := { s.wires with
        fire := decide (s.lastSample = 0b00#2 ∧ s.pendingRelease = false ∧ s.countdown = 1)
        zeroRelease := false } }) ∧
  (∀ s t u : State, exec .both s = .next t → s.mode = .run → t.wires.fire = true →
    (exec .down t = .next u ∨ exec .up t = .next u) →
    u.wires.fire = false ∧ u.count = t.count ∧ u.pendingRelease = true)

/-- The IDLE sample after a fire raises `zero_release` exactly when the count then is 0: never after UP, and after BOTH
although the count never moved (the inferences of R78 (c) and R79 (b), which the spec marks as derived from R71). -/
def Obligations.IdleAfterAFireTestsTheCount : Prop :=
  ∀ (s t : State) (op : RawOp), op ≠ .idle → s.mode = .run → exec op.instr s = .next t → t.wires.fire = true →
    ∃ u, exec .idle t = .next u ∧ (u.wires.zeroRelease = true ↔ t.count.toNat = 0) ∧
      (op = .up → u.wires.zeroRelease = false) ∧
      (op = .both → s.count.toNat = 0 → u.wires.zeroRelease = true)

/-- Whichever branch a non-idle sample takes, and whatever `countdown` held, it stores itself, and the comparison reads the
value stored before: the event `fire` needs the old `lastSample` to equal the sample (R72). That the sample runs also at
`countdown = 0`, a case that R74 says cannot arise, is log entry 7 (DESIGN CHOICE). -/
def Obligations.NonIdleSampleStoresItself : Prop :=
  ∀ (s : State) (op : RawOp), s.admissible = true → s.mode = .run → op ≠ .idle →
    ∃ t, exec op.instr s = .next t ∧ t.lastSample = op.bits ∧ (t.wires.fire = true → s.lastSample = op.bits)

/-- The count changes only at a fire of DOWN or UP: in RUN, on a matching sample at `countdown = 1`, by exactly one
(R21, R25). -/
def Obligations.CountChangesOnlyAtAFire : Prop :=
  ∀ s t : State, Inv s → step s = .next t → s.ports.rst = false → t.count ≠ s.count →
    s.mode = .run ∧ s.pendingRelease = false ∧ s.lastSample = s.ports.lines ∧ s.countdown = 1 ∧ t.wires.fire = true ∧
    ((s.nextOp = .down ∧ t.count.toNat + 1 = s.count.toNat) ∨ (s.nextOp = .up ∧ t.count.toNat = s.count.toNat + 1))

/-- `fire` and `zero_release` exclude each other in every step (R34). -/
def Obligations.FireExcludesZeroRelease : Prop :=
  ∀ s t : State, step s = .next t → ¬ (t.wires.fire = true ∧ t.wires.zeroRelease = true)

/-- Samples needed for one count (R82): from an armed counter, a run of equal non-idle samples fires at its N-th sample
when `lastSample` already holds the value and at its (N+1)-th when it does not, and not before. -/
def Obligations.PressFiresAtItsNthMatchingSample : Prop :=
  ∀ (s : State) (op : RawOp) (k : Nat), s.admissible = true → s.mode = .run → op ≠ .idle →
    s.pendingRelease = false → s.countdown = s.params.debounceCount → 1 ≤ k →
    k ≤ s.params.debounceCount + (if s.lastSample = op.bits then 0 else 1) →
    ∃ t, execAll (List.replicate k op.instr) s = .next t ∧ t.lastSample = op.bits ∧
      (t.wires.fire = true ↔ k = s.params.debounceCount + (if s.lastSample = op.bits then 0 else 1)) ∧
      t.count.toNat = (if k = s.params.debounceCount + (if s.lastSample = op.bits then 0 else 1)
        then sampleTransition op s.count.toNat else s.count.toNat)

/-- One press, one count (R83): once a release is pending, no sequence of non-idle samples, however long and however mixed,
fires, changes the count or clears `activity`. -/
def Obligations.HeldPressNeverCountsAgain : Prop :=
  ∀ (s : State) (ops : List RawOp), s.admissible = true → s.mode = .run → s.pendingRelease = true →
    (∀ op ∈ ops, op ≠ .idle) →
    ∃ t, execAll (ops.map RawOp.instr) s = .next t ∧ t.count = s.count ∧ t.pendingRelease = true ∧
      t.activity = s.activity ∧ (ops ≠ [] → t.wires.fire = false)

/-- Bounce rejection (R84): an input sequence in which no N consecutive samples are equal and non-idle produces no fire and
leaves the count unchanged. -/
def Obligations.BounceIsRejected : Prop :=
  ∀ (s : State) (ops : List RawOp), s.admissible = true → s.mode = .run →
    s.countdown = s.params.debounceCount →
    (∀ op, op ≠ .idle → ¬ (List.replicate s.params.debounceCount op <:+: ops)) →
    ∃ t, execAll (ops.map RawOp.instr) s = .next t ∧ t.count = s.count ∧ t.activity = s.activity ∧
      (ops ≠ [] → t.wires.fire = false)

/-! ## inactivity_timer -/

/-- SELECT (R91): Off at and above SHUTOFF_THRESHOLD, else Dimmed at and above DIM_THRESHOLD, else Normal; the document's
five corner cases, and the nominal record's. -/
def Obligations.PowerStateByTwoThresholds : Prop :=
  (∀ (p : Params) (a : Nat),
    (powerState p a = .off ↔ p.shutoffThreshold ≤ a) ∧
    (powerState p a = .dimmed ↔ p.dimThreshold ≤ a ∧ a < p.shutoffThreshold) ∧
    (powerState p a = .normal ↔ a < p.dimThreshold ∧ a < p.shutoffThreshold)) ∧
  (∀ p : Params, p.legal = true →
    powerState p 0 = .normal ∧ powerState p (p.dimThreshold - 1) = .normal ∧ powerState p p.dimThreshold = .dimmed ∧
    powerState p (p.shutoffThreshold - 1) = .dimmed ∧ powerState p p.shutoffThreshold = .off) ∧
  (powerState nominal 0 = .normal ∧ powerState nominal 99999 = .normal ∧ powerState nominal 100000 = .dimmed ∧
    powerState nominal 150000 = .dimmed ∧ powerState nominal 299999 = .dimmed ∧ powerState nominal 300000 = .off)

/-- SELECT sees `activity` as it stands after the sample of the same iteration, so 0 and Normal in an iteration with a fire,
whatever the register held (R92). Such an iteration stays in RUN (R125, R134) and renders the four Normal slots (R112, with
T_GAP and T_LOOP by the spec's decision 92 D17). -/
def Obligations.SelectSeesActivityAfterTheSample : Prop :=
  ∀ s t : State, s.ports.rst = false → s.mode = .run → step s = .next t →
    t.wires.power = some (powerState s.params (if t.wires.fire then 0 else s.activity)) ∧
    (t.wires.fire = true → t.wires.power = some .normal ∧ t.mode = .run ∧ t.wires.slots.length = 4 ∧
      slotTime t.wires.slots = 2 * s.params.tDigit + 2 * s.params.tGap + s.params.tLoop)

/-- TICK (R93; that a clearing iteration ends at 0 is the spec's decision 92 D8): after a fire 0, after an Off entry 0, else
one more. -/
def Obligations.ActivityTicksOncePerIteration : Prop :=
  ∀ s t : State, s.ports.rst = false → s.mode = .run → step s = .next t →
    t.activity = if t.wires.fire = true ∨ t.wires.zeroRelease = true ∨ t.wires.power = some .off
      then 0 else s.activity + 1

/-- What clears `activity` (R94): reset, a fire, an Off entry, and nothing else; in SLEEP and SETTLE it neither clears nor
counts. That a step with a fire or an Off entry ends at 0 and does not count is the spec's decision 92 D8 (log entry 16). -/
def Obligations.ActivityClearedByExactlyThreeThings : Prop :=
  ∀ s t : State, step s = .next t →
    ((s.ports.rst = true ∨ t.wires.fire = true ∨ (s.mode = .run ∧ t.mode = .sleep)) → t.activity = 0) ∧
    (¬ (s.ports.rst = true ∨ t.wires.fire = true ∨ (s.mode = .run ∧ t.mode = .sleep)) →
      (s.mode = .run → t.activity ≠ 0) ∧ (s.mode ≠ .run → t.activity = s.activity))

/-- Iterations to dim and to shut off (R96): from `activity = 0` in RUN, while no reset, no fire and no `zero_release`
comes, iteration k sees `activity = k - 1` and is Normal, Dimmed or the Off entry accordingly. The exact iteration numbers rest on
the spec's decision 92 D8. -/
def Obligations.QuietIterationsDimThenShutOff : Prop :=
  ∀ (s : State) (k : Nat), Inv s → s.mode = .run → s.activity = 0 → 1 ≤ k → k ≤ s.params.shutoffThreshold + 1 →
    (∀ (j : Nat) (u : State), j < k → Host.Core.run Sys2Proof.core j s = .next u → u.ports.rst = false) →
    (∀ (j : Nat) (u : State), 1 ≤ j → j ≤ k → Host.Core.run Sys2Proof.core j s = .next u →
      u.wires.fire = false ∧ u.wires.zeroRelease = false) →
    ∃ t, Host.Core.run Sys2Proof.core k s = .next t ∧
      t.wires.power = some (powerState s.params (k - 1)) ∧
      (k ≤ s.params.shutoffThreshold → t.mode = .run ∧ t.activity = k) ∧
      (k = s.params.shutoffThreshold + 1 → t.mode = .sleep ∧ t.activity = 0)

/-! ## multiplexed_7seg_driver -/

/-- COLOR (R100): in every RUN iteration the Color is Green exactly when the count after the sample is 1, on all its bits:
3, 5, 11 and 99 are Red. -/
def Obligations.ColorIsGreenExactlyAtOne : Prop :=
  (∀ s t : State, s.ports.rst = false → s.mode = .run → step s = .next t →
    t.wires.color = some (if t.count.toNat = 1 then .green else .red)) ∧
  (∀ c : Count, colorOf c = .green ↔ c = 1#7) ∧
  colorOf 3#7 = .red ∧ colorOf 5#7 = .red ∧ colorOf 11#7 = .red ∧ colorOf 99#7 = .red

/-- Digit split (R102): the units are `count mod 10` and the tens `count div 10`, and the tens are at least 1 exactly from
10 up. -/
def Obligations.DigitsAreDecimal : Prop :=
  ∀ c : Count, c.toNat ≤ 99 →
    (unitsDigit c).val = c.toNat % 10 ∧ (tensDigit c).val = c.toNat / 10 ∧
    (1 ≤ (tensDigit c).val ↔ 10 ≤ c.toNat) ∧ 10 * (tensDigit c).val + (unitsDigit c).val = c.toNat

/-- The select values, and that each has exactly one line (R106; the order of the lines is the spec's decision 92 D13). -/
def Obligations.SelectValuesAreOneHot : Prop :=
  selv .units .red = 0b0001#4 ∧ selv .tens .red = 0b0010#4 ∧ selv .units .green = 0b0100#4 ∧
  selv .tens .green = 0b1000#4 ∧
  ∀ (p : Position) (c : Color), ∃ i, i < 4 ∧ ∀ j, (selv p c).getLsbD j = decide (j = i)

/-- RENDER_NORMAL (R112): the units lit, blank, the tens lit from 10 up or an equal blank interval, blank; both outputs end
blank and no register is written but these. In a RUN iteration it is selected by the PowerState Normal. That on its own it
is performed whichever PowerState `activity` selects is log entry 23 (DEDUCED), and that the wire `rom` shows the later of
two reads is log entry 19 (DEDUCED). -/
def Obligations.RenderNormalEmitsItsFourSlots : Prop :=
  (∀ (s : State) (u v : Digit), s.admissible = true → s.mode = .run → u.val = s.count.toNat % 10 →
    v.val = s.count.toNat / 10 →
    exec .renderNormal s = .next { s with
      seg := 0
      sel := 0
      wires := { s.wires with
        rom := some (segRom s.params (if 10 ≤ s.count.toNat then v else u))
        slots := s.wires.slots ++
          [⟨segRom s.params u, selv .units (if s.count.toNat = 1 then .green else .red), s.params.tDigit⟩,
           ⟨0, 0, s.params.tGap⟩,
           if 10 ≤ s.count.toNat then ⟨segRom s.params v, selv .tens .red, s.params.tDigit⟩
             else ⟨0, 0, s.params.tDigit⟩,
           ⟨0, 0, s.params.tGap + s.params.tLoop⟩] } }) ∧
  ∀ (s t : State) (u v : Digit), s.ports.rst = false → s.mode = .run → step s = .next t → t.wires.power = some .normal →
    t.wires.zeroRelease = false → u.val = t.count.toNat % 10 → v.val = t.count.toNat / 10 →
    t.seg = 0 ∧ t.sel = 0 ∧ t.wires.slots =
      [⟨segRom s.params u, selv .units (if t.count.toNat = 1 then .green else .red), s.params.tDigit⟩,
       ⟨0, 0, s.params.tGap⟩,
       if 10 ≤ t.count.toNat then ⟨segRom s.params v, selv .tens .red, s.params.tDigit⟩ else ⟨0, 0, s.params.tDigit⟩,
       ⟨0, 0, s.params.tGap + s.params.tLoop⟩]

/-- RENDER_DIMMED (R114): the same slots with T_DIM after each digit slot, also after a blank third slot (the spec's
decision 92 D10). That on its own it is performed whichever PowerState `activity` selects is log entry 23 (DEDUCED), and
that the wire `rom` shows the later of two reads is log entry 19 (DEDUCED). -/
def Obligations.RenderDimmedAddsDarkTime : Prop :=
  ∀ (s : State) (u v : Digit), s.admissible = true → s.mode = .run → u.val = s.count.toNat % 10 →
    v.val = s.count.toNat / 10 →
    exec .renderDimmed s = .next { s with
      seg := 0
      sel := 0
      wires := { s.wires with
        rom := some (segRom s.params (if 10 ≤ s.count.toNat then v else u))
        slots := s.wires.slots ++
          [⟨segRom s.params u, selv .units (if s.count.toNat = 1 then .green else .red), s.params.tDigit⟩,
           ⟨0, 0, s.params.tGap + s.params.tDim⟩,
           if 10 ≤ s.count.toNat then ⟨segRom s.params v, selv .tens .red, s.params.tDigit⟩
             else ⟨0, 0, s.params.tDigit⟩,
           ⟨0, 0, s.params.tGap + s.params.tDim + s.params.tLoop⟩] } }

/-- RENDER_OFF and SLEEP_ENTER (R115, R126; one action by the spec's decision 92 D15): one blank slot (log entry 21, DEDUCED),
`activity` cleared, the wake reference loaded with the levels last taken (log entry 11, DEDUCED), the wake enabled, SLEEP;
every other register keeps its value. That on its own it is performed without a cause of R125 is log entry 23 (DEDUCED). -/
def Obligations.RenderOffEntersSleep : Prop :=
  ∀ s : State, s.admissible = true → s.mode = .run →
    exec .renderOff s = .next { s with
      seg := 0
      sel := 0
      activity := 0
      wakeRef := s.lines
      wakeEn := true
      mode := .sleep
      wires := { s.wires with slots := s.wires.slots ++ [⟨0, 0, 0⟩] } }

/-- The ten rows of the lookup (R46): a read returns the row of SEG_TABLE and has no effect on any register, and no
operation writes the table. That the read is performed in every mode and stands on the wire `rom` is log entry 19
(DEDUCED). -/
def Obligations.SegRomReadsItsRow : Prop :=
  (∀ (i : Instr) (s t : State), exec i s = .next t → t.params.segTable = s.params.segTable) ∧
  ∀ s : State, s.admissible = true →
    exec .seg0 s = .next { s with wires := { s.wires with rom := some s.params.segTable[0] } } ∧
    exec .seg1 s = .next { s with wires := { s.wires with rom := some s.params.segTable[1] } } ∧
    exec .seg2 s = .next { s with wires := { s.wires with rom := some s.params.segTable[2] } } ∧
    exec .seg3 s = .next { s with wires := { s.wires with rom := some s.params.segTable[3] } } ∧
    exec .seg4 s = .next { s with wires := { s.wires with rom := some s.params.segTable[4] } } ∧
    exec .seg5 s = .next { s with wires := { s.wires with rom := some s.params.segTable[5] } } ∧
    exec .seg6 s = .next { s with wires := { s.wires with rom := some s.params.segTable[6] } } ∧
    exec .seg7 s = .next { s with wires := { s.wires with rom := some s.params.segTable[7] } } ∧
    exec .seg8 s = .next { s with wires := { s.wires with rom := some s.params.segTable[8] } } ∧
    exec .seg9 s = .next { s with wires := { s.wires with rom := some s.params.segTable[9] } }

/-- The sequence of slot durations of a rendered iteration depends on the PowerState only, never on the count or the Color,
because below 10 a blank interval of the tens digit's length is spent in its place (R104). -/
def Obligations.SlotDurationsDependOnPowerStateOnly : Prop :=
  (∀ s₁ s₂ t₁ t₂ : State, s₁.params = s₂.params → s₁.mode = .run → s₂.mode = .run →
    s₁.ports.rst = false → s₂.ports.rst = false → step s₁ = .next t₁ → step s₂ = .next t₂ →
    t₁.mode = .run → t₂.mode = .run → t₁.wires.power = t₂.wires.power →
    t₁.wires.slots.map Slot.dur = t₂.wires.slots.map Slot.dur) ∧
  ∀ s t : State, s.ports.rst = false → s.mode = .run → step s = .next t → t.mode = .run →
    ∃ x, t.wires.slots[2]? = some x ∧ x.dur = s.params.tDigit ∧ (x.isBlank ↔ t.count.toNat < 10)

/-- Every slot of every step is blank or lights one digit of the count at its own position in the Color of the count: never
two digits, never two colours, no leading zero (R103, R105, R107, R110). -/
def Obligations.EverySlotIsBlankOrOneDigit : Prop :=
  ∀ s t : State, step s = .next t → ∀ x ∈ t.wires.slots,
    x.isBlank ∨ x.lights t.params .units (unitsDigit t.count) (colorOf t.count) ∨
      (10 ≤ t.count.toNat ∧ x.lights t.params .tens (tensDigit t.count) (colorOf t.count))

/-- How long an iteration lasts (R104, R116): a Normal and a Dimmed iteration differ by two T_DIM, whatever the count
(the spec's decisions 92 D10 and D17). -/
def Obligations.IterationTimeByPowerState : Prop :=
  ∀ s t : State, s.ports.rst = false → s.mode = .run → step s = .next t → t.mode = .run →
    (t.wires.power = some .normal →
      slotTime t.wires.slots = 2 * s.params.tDigit + 2 * s.params.tGap + s.params.tLoop) ∧
    (t.wires.power = some .dimmed →
      slotTime t.wires.slots = 2 * s.params.tDigit + 2 * s.params.tDim + 2 * s.params.tGap + s.params.tLoop)

/-- Outside the lit slots the display is dark: both outputs are blank after every step (R119). -/
def Obligations.DisplayIsDarkAfterEveryStep : Prop :=
  ∀ s t : State, Inv s → step s = .next t → t.seg = 0 ∧ t.sel = 0

/-! ## Sleep, wake and settle -/

/-- The causes of the Off entry (R125): a RUN iteration enters SLEEP exactly when, after the sample, `zero_release` is 1 or
the PowerState is Off, which it is from SHUTOFF_THRESHOLD up. Its slots are one blank slot of duration 0 (R126, R150), one
emission by log entry 21 (DEDUCED). -/
def Obligations.OffEntryExactlyOnItsCauses : Prop :=
  ∀ s t : State, s.ports.rst = false → s.mode = .run → step s = .next t →
    (t.mode = .sleep ↔ t.wires.zeroRelease = true ∨ t.wires.power = some .off) ∧
    (t.wires.power = some .off ↔ s.params.shutoffThreshold ≤ (if t.wires.fire then 0 else s.activity)) ∧
    (t.mode = .sleep → t.wires.slots = [⟨0, 0, 0⟩])

/-- One examined change of the lines in SLEEP (R127, R128, R130; the detector's reference level is the spec's decision 92
D15): the reference follows the lines; a line that was high and is low wakes the block where the wake is enabled. -/
def Obligations.SleepExaminesTheLines : Prop :=
  ∀ s : State, s.admissible = true → s.mode = .sleep →
    ((s.wakeEn = true ∧ ∃ i, i < 2 ∧ s.wakeRef.getLsbD i = true ∧ s.ports.lines.getLsbD i = false) →
      exec .modeSleep s = .next { s.takePorts with
        wires := Wires.quiet, wakeRef := s.ports.lines, wakeEn := false, mode := .settle }) ∧
    (¬ (s.wakeEn = true ∧ ∃ i, i < 2 ∧ s.wakeRef.getLsbD i = true ∧ s.ports.lines.getLsbD i = false) →
      exec .modeSleep s = .next { s.takePorts with wires := Wires.quiet, wakeRef := s.ports.lines })

/-- Mode SLEEP (R127): no sample, no event, no count of `activity`, the outputs stay blank and `asleep` is 1; the only
enabled transition is the wake, and without it the block stays in SLEEP, which is no fault. The falling edge is judged
against the reference level of the spec's decision 92 D15 (R128, R130; log entry 16). -/
def Obligations.SleepIsLeftOnlyByTheWake : Prop :=
  ∀ s : State, Inv s → s.mode = .sleep → s.ports.rst = false →
    s.asleep = true ∧
    ∃ t, step s = .next t ∧ t.count = s.count ∧ t.countdown = s.countdown ∧ t.pendingRelease = s.pendingRelease ∧
      t.lastSample = s.lastSample ∧ t.activity = s.activity ∧ t.seg = 0 ∧ t.sel = 0 ∧ t.wires = Wires.quiet ∧
      (fallingEdge s.wakeRef s.ports.lines = true → t.mode = .settle) ∧
      (fallingEdge s.wakeRef s.ports.lines = false → t.mode = .sleep ∧ t.asleep = true)

/-- The timed step of SETTLE and RESUME (R131, R132; the spec's decisions 92 D9 and D16): only the mode changes, no input is
taken (log entry 20, DEDUCED), and the label is T_SETTLE. -/
def Obligations.SettleReturnsToRun : Prop :=
  ∀ s : State, s.admissible = true → s.mode = .settle →
    exec .modeSettle s = .next { s with mode := .run, wires := { Wires.quiet with delay := some s.params.tSettle } }

/-- From SLEEP a falling edge and the settle step lead to a RUN iteration that begins with a fresh sample; the debounce state
is as the Off entry left it and `activity` is 0 (R133; the edge by the spec's decision 92 D15). That the ports looked at in
SETTLE are those of the next sample, with `rst` not asserted, is the model's choice, log entries 20 and 24. -/
def Obligations.WakeAndSettleKeepTheDebounceState : Prop :=
  ∀ (s : State) (lv next : Levels) (rest : List Ports), Inv s → s.mode = .sleep →
    s.stimuli = ⟨false, lv⟩ :: ⟨false, next⟩ :: rest → fallingEdge s.wakeRef lv = true →
    ∃ t, Host.Core.run Sys2Proof.core 2 s = .next t ∧ t.mode = .run ∧ t.wakeEn = false ∧ t.activity = 0 ∧
      t.count = s.count ∧ t.countdown = s.countdown ∧ t.pendingRelease = s.pendingRelease ∧
      t.lastSample = s.lastSample ∧ t.ports = ⟨false, next⟩ ∧ t.wires.delay = some s.params.tSettle

/-- Which line woke the block is not kept (R122, R130): two wakes from one state by different edges differ only in the
levels last seen, which no rule reads before they are loaded again. The edges are judged as the spec's decision 92 D15 says
(R128), and that the reference takes the levels of the waking change too is log entry 12 (DEDUCED). -/
def Obligations.WakingLineIsNotRecorded : Prop :=
  ∀ (s t₁ t₂ : State) (lv₁ lv₂ : Levels) (rest : List Ports), s.mode = .sleep → s.wakeEn = true →
    fallingEdge s.wakeRef lv₁ = true → fallingEdge s.wakeRef lv₂ = true →
    step { s with stimuli := ⟨false, lv₁⟩ :: rest } = .next t₁ →
    step { s with stimuli := ⟨false, lv₂⟩ :: rest } = .next t₂ →
    t₂ = { t₁ with lines := lv₂, wakeRef := lv₂ }

/-! ## Reset, totality, parameters -/

/-- The registers after reset (R35; the values other than `countdown`'s are the spec's decision 92 D6, the record is the
nominal one, log entry 4). -/
def Obligations.ResetRegisters : Prop :=
  State.reset.count = 0 ∧ State.reset.countdown = 200 ∧ State.reset.pendingRelease = false ∧
  State.reset.lastSample = 0b11#2 ∧ State.reset.activity = 0 ∧ State.reset.mode = .run ∧
  State.reset.wakeEn = false ∧ State.reset.seg = 0 ∧ State.reset.sel = 0

/-- The reset state meets the invariant, whatever the environment is about to present (R37). -/
def Obligations.ResetMeetsTheInvariant : Prop :=
  ∀ ps : List Ports, Inv { State.reset with stimuli := ps }

/-- `rst` asserted in any mode gives every register its reset value in one step (R145; the reset input is the spec's
decision 92 D26). -/
def Obligations.ResetFromAnyMode : Prop :=
  ∀ s : State, s.ports.rst = true → s.params.legal = true →
    ∃ t, step s = .next t ∧ t.count = 0 ∧ t.countdown = s.params.debounceCount ∧ t.pendingRelease = false ∧
      t.lastSample = s.params.lastSampleReset ∧ t.activity = 0 ∧ t.mode = .run ∧ t.wakeEn = false ∧ t.seg = 0 ∧
      t.sel = 0 ∧ t.params = s.params ∧ t.wires = Wires.quiet

/-- Every step keeps the invariant (R37 (a) to (f), with the legal record, one select line at most, and `activity` 0
outside RUN), from every state that meets it and under every input. -/
def Obligations.EveryStepKeepsTheInvariant : Prop :=
  ∀ s t : State, Inv s → step s = .next t → Inv t

/-- No execution ends (R36): from every state that meets the invariant, any number of steps gives a state that meets it. -/
def Obligations.EveryExecutionIsInfiniteAndSafe : Prop :=
  ∀ (k : Nat) (s : State), Inv s → ∃ t, Host.Core.run Sys2Proof.core k s = .next t ∧ Inv t

/-- No operation faults, for any state reachable from reset and any input; nor is one refused there (R120). That an operation
outside its mode answers a next state, the same one, is log entry 2 (DEDUCED). -/
def Obligations.NoOperationFaults : Prop :=
  (∀ (i : Instr) (s : State) (f : Fault), exec i s ≠ .fault f) ∧
  ∀ (ps : List Ports) (k : Nat) (s : State), Host.Core.run Sys2Proof.core k { State.reset with stimuli := ps } = .next s →
    (∃ t, step s = .next t) ∧ ∀ i : Instr, ∃ t, exec i s = .next t

/-- DEDUCED (log entry 2), the model's reading: an operation of the sub-blocks or of another mode is not performed outside
its mode, and the state is as it was. -/
def Obligations.OperationsArePerformedOnlyInTheirMode : Prop :=
  ∀ s : State, s.admissible = true →
    (s.mode ≠ .run → exec .idle s = .next s ∧ exec .down s = .next s ∧ exec .up s = .next s ∧ exec .both s = .next s ∧
      exec .renderNormal s = .next s ∧ exec .renderDimmed s = .next s ∧ exec .renderOff s = .next s ∧
      exec .modeRun s = .next s) ∧
    (s.mode ≠ .sleep → exec .modeSleep s = .next s) ∧ (s.mode ≠ .settle → exec .modeSettle s = .next s)

/-- What a model refuses (92 D18, D28; log entry 14): an illegal parameter record, and a register holding an unreachable
encoding. -/
def Obligations.IllegalRecordsAndEncodingsAreRefused : Prop :=
  ∀ (s : State) (i : Instr),
    (s.params.legal = false → exec i s = .refused .illegalParameters ∧ step s = .refused .illegalParameters) ∧
    (s.params.legal = true → 99 < s.count.toNat → exec i s = .refused .unreachableCount) ∧
    (s.params.legal = true → s.count.toNat ≤ 99 → selLegal s.sel = false → exec i s = .refused .unreachableSelect) ∧
    (s.params.legal = true → s.count.toNat ≤ 99 → selLegal s.sel = true → ∃ t, exec i s = .next t)

/-- No step changes the parameter record (R7, R14: the constants are fixed for the hardware; that State carries them is log
entry 4). -/
def Obligations.ParameterRecordIsConstant : Prop :=
  ∀ s t : State, step s = .next t → t.params = s.params

/-- PIN_VARIANT has no effect on any logical signal (R118, 92 D22): a step from the same state with the other pin map is the
same step. -/
def Obligations.PinVariantHasNoEffect : Prop :=
  ∀ (s t : State) (v : PinVariant), step s = .next t →
    step { s with params := { s.params with pinVariant := v } } =
      .next { t with params := { t.params with pinVariant := v } }

/-- No register depends on a duration (R16, 92 D23): two records that differ in their durations only lead to the same
registers and the same events. -/
def Obligations.DurationsDoNotReachTheRegisters : Prop :=
  ∀ (s t₁ t₂ : State) (d₁ d₂ d₃ d₄ d₅ : Micros), step s = .next t₁ →
    step { s with params := { s.params with tDigit := d₁, tDim := d₂, tSettle := d₃, tGap := d₄, tLoop := d₅ } }
      = .next t₂ →
    t₂.count = t₁.count ∧ t₂.countdown = t₁.countdown ∧ t₂.pendingRelease = t₁.pendingRelease ∧
    t₂.lastSample = t₁.lastSample ∧ t₂.activity = t₁.activity ∧ t₂.mode = t₁.mode ∧ t₂.wakeEn = t₁.wakeEn ∧
    t₂.wakeRef = t₁.wakeRef ∧ t₂.seg = t₁.seg ∧ t₂.sel = t₁.sel ∧ t₂.wires.fire = t₁.wires.fire ∧
    t₂.wires.zeroRelease = t₁.wires.zeroRelease ∧ t₂.wires.color = t₁.wires.color ∧ t₂.wires.power = t₁.wires.power

/-- The registers held as natural numbers fit the widths the spec gives them, so that they never wrap (R22, R27). -/
def Obligations.CountersFitTheirWidths : Prop :=
  ∀ s : State, Inv s →
    s.countdown < 2 ^ s.params.countdownWidth ∧ s.activity < 2 ^ s.params.activityWidth ∧
    (∀ w, s.params.debounceCount < 2 ^ w → s.params.countdownWidth ≤ w) ∧
    (∀ w, s.params.shutoffThreshold < 2 ^ w → s.params.activityWidth ≤ w)
end

