-- ==== Sys2Proof/Laws/State.lean ====
section
/-! SUPPORT. One lemma per field per update: no later proof unfolds a record update. -/

namespace Sys2Proof.Machine

/-! ### `clearWires` -/

@[simp] theorem State.clearWires_count (s : State) :
    s.clearWires.count = s.count := rfl

@[simp] theorem State.clearWires_countdown (s : State) :
    s.clearWires.countdown = s.countdown := rfl

@[simp] theorem State.clearWires_pendingRelease (s : State) :
    s.clearWires.pendingRelease = s.pendingRelease := rfl

@[simp] theorem State.clearWires_lastSample (s : State) :
    s.clearWires.lastSample = s.lastSample := rfl

@[simp] theorem State.clearWires_activity (s : State) :
    s.clearWires.activity = s.activity := rfl

@[simp] theorem State.clearWires_mode (s : State) :
    s.clearWires.mode = s.mode := rfl

@[simp] theorem State.clearWires_wakeEn (s : State) :
    s.clearWires.wakeEn = s.wakeEn := rfl

@[simp] theorem State.clearWires_wakeRef (s : State) :
    s.clearWires.wakeRef = s.wakeRef := rfl

@[simp] theorem State.clearWires_seg (s : State) :
    s.clearWires.seg = s.seg := rfl

@[simp] theorem State.clearWires_sel (s : State) :
    s.clearWires.sel = s.sel := rfl

@[simp] theorem State.clearWires_wires (s : State) :
    s.clearWires.wires = Wires.quiet := rfl

@[simp] theorem State.clearWires_lines (s : State) :
    s.clearWires.lines = s.lines := rfl

@[simp] theorem State.clearWires_stimuli (s : State) :
    s.clearWires.stimuli = s.stimuli := rfl

@[simp] theorem State.clearWires_drawn (s : State) :
    s.clearWires.drawn = s.drawn := rfl

@[simp] theorem State.clearWires_params (s : State) :
    s.clearWires.params = s.params := rfl

/-! ### `takePorts` -/

@[simp] theorem State.takePorts_count (s : State) :
    s.takePorts.count = s.count := by
  rcases h : s.stimuli with _ | ⟨p, ps⟩ <;> simp [State.takePorts, h]

@[simp] theorem State.takePorts_countdown (s : State) :
    s.takePorts.countdown = s.countdown := by
  rcases h : s.stimuli with _ | ⟨p, ps⟩ <;> simp [State.takePorts, h]

@[simp] theorem State.takePorts_pendingRelease (s : State) :
    s.takePorts.pendingRelease = s.pendingRelease := by
  rcases h : s.stimuli with _ | ⟨p, ps⟩ <;> simp [State.takePorts, h]

@[simp] theorem State.takePorts_lastSample (s : State) :
    s.takePorts.lastSample = s.lastSample := by
  rcases h : s.stimuli with _ | ⟨p, ps⟩ <;> simp [State.takePorts, h]

@[simp] theorem State.takePorts_activity (s : State) :
    s.takePorts.activity = s.activity := by
  rcases h : s.stimuli with _ | ⟨p, ps⟩ <;> simp [State.takePorts, h]

@[simp] theorem State.takePorts_mode (s : State) :
    s.takePorts.mode = s.mode := by
  rcases h : s.stimuli with _ | ⟨p, ps⟩ <;> simp [State.takePorts, h]

@[simp] theorem State.takePorts_wakeEn (s : State) :
    s.takePorts.wakeEn = s.wakeEn := by
  rcases h : s.stimuli with _ | ⟨p, ps⟩ <;> simp [State.takePorts, h]

@[simp] theorem State.takePorts_wakeRef (s : State) :
    s.takePorts.wakeRef = s.wakeRef := by
  rcases h : s.stimuli with _ | ⟨p, ps⟩ <;> simp [State.takePorts, h]

@[simp] theorem State.takePorts_seg (s : State) :
    s.takePorts.seg = s.seg := by
  rcases h : s.stimuli with _ | ⟨p, ps⟩ <;> simp [State.takePorts, h]

@[simp] theorem State.takePorts_sel (s : State) :
    s.takePorts.sel = s.sel := by
  rcases h : s.stimuli with _ | ⟨p, ps⟩ <;> simp [State.takePorts, h]

@[simp] theorem State.takePorts_wires (s : State) :
    s.takePorts.wires = s.wires := by
  rcases h : s.stimuli with _ | ⟨p, ps⟩ <;> simp [State.takePorts, h]

@[simp] theorem State.takePorts_lines (s : State) :
    s.takePorts.lines = s.ports.lines := by
  rcases h : s.stimuli with _ | ⟨p, ps⟩ <;> simp [State.takePorts, State.ports, h]

@[simp] theorem State.takePorts_stimuli (s : State) :
    s.takePorts.stimuli = s.stimuli.tail := by
  rcases h : s.stimuli with _ | ⟨p, ps⟩ <;> simp [State.takePorts, h]

@[simp] theorem State.takePorts_params (s : State) :
    s.takePorts.params = s.params := by
  rcases h : s.stimuli with _ | ⟨p, ps⟩ <;> simp [State.takePorts, h]

/-! ### `emit` -/

@[simp] theorem State.emit_count (s : State) (e : SegBits) (l : SelBits) (d : Micros) :
    (s.emit e l d).count = s.count := rfl

@[simp] theorem State.emit_countdown (s : State) (e : SegBits) (l : SelBits) (d : Micros) :
    (s.emit e l d).countdown = s.countdown := rfl

@[simp] theorem State.emit_pendingRelease (s : State) (e : SegBits) (l : SelBits) (d : Micros) :
    (s.emit e l d).pendingRelease = s.pendingRelease := rfl

@[simp] theorem State.emit_lastSample (s : State) (e : SegBits) (l : SelBits) (d : Micros) :
    (s.emit e l d).lastSample = s.lastSample := rfl

@[simp] theorem State.emit_activity (s : State) (e : SegBits) (l : SelBits) (d : Micros) :
    (s.emit e l d).activity = s.activity := rfl

@[simp] theorem State.emit_mode (s : State) (e : SegBits) (l : SelBits) (d : Micros) :
    (s.emit e l d).mode = s.mode := rfl

@[simp] theorem State.emit_wakeEn (s : State) (e : SegBits) (l : SelBits) (d : Micros) :
    (s.emit e l d).wakeEn = s.wakeEn := rfl

@[simp] theorem State.emit_wakeRef (s : State) (e : SegBits) (l : SelBits) (d : Micros) :
    (s.emit e l d).wakeRef = s.wakeRef := rfl

@[simp] theorem State.emit_seg (s : State) (e : SegBits) (l : SelBits) (d : Micros) :
    (s.emit e l d).seg = e := rfl

@[simp] theorem State.emit_sel (s : State) (e : SegBits) (l : SelBits) (d : Micros) :
    (s.emit e l d).sel = l := rfl

@[simp] theorem State.emit_wires (s : State) (e : SegBits) (l : SelBits) (d : Micros) :
    (s.emit e l d).wires = { s.wires with slots := s.wires.slots ++ [⟨e, l, d⟩] } := rfl

@[simp] theorem State.emit_lines (s : State) (e : SegBits) (l : SelBits) (d : Micros) :
    (s.emit e l d).lines = s.lines := rfl

@[simp] theorem State.emit_stimuli (s : State) (e : SegBits) (l : SelBits) (d : Micros) :
    (s.emit e l d).stimuli = s.stimuli := rfl

@[simp] theorem State.emit_drawn (s : State) (e : SegBits) (l : SelBits) (d : Micros) :
    (s.emit e l d).drawn = s.drawn := rfl

@[simp] theorem State.emit_params (s : State) (e : SegBits) (l : SelBits) (d : Micros) :
    (s.emit e l d).params = s.params := rfl

/-! ### `blank` -/

@[simp] theorem State.blank_count (s : State) (d : Micros) :
    (s.blank d).count = s.count := rfl

@[simp] theorem State.blank_countdown (s : State) (d : Micros) :
    (s.blank d).countdown = s.countdown := rfl

@[simp] theorem State.blank_pendingRelease (s : State) (d : Micros) :
    (s.blank d).pendingRelease = s.pendingRelease := rfl

@[simp] theorem State.blank_lastSample (s : State) (d : Micros) :
    (s.blank d).lastSample = s.lastSample := rfl

@[simp] theorem State.blank_activity (s : State) (d : Micros) :
    (s.blank d).activity = s.activity := rfl

@[simp] theorem State.blank_mode (s : State) (d : Micros) :
    (s.blank d).mode = s.mode := rfl

@[simp] theorem State.blank_wakeEn (s : State) (d : Micros) :
    (s.blank d).wakeEn = s.wakeEn := rfl

@[simp] theorem State.blank_wakeRef (s : State) (d : Micros) :
    (s.blank d).wakeRef = s.wakeRef := rfl

@[simp] theorem State.blank_seg (s : State) (d : Micros) :
    (s.blank d).seg = 0 := rfl

@[simp] theorem State.blank_sel (s : State) (d : Micros) :
    (s.blank d).sel = 0 := rfl

@[simp] theorem State.blank_wires (s : State) (d : Micros) :
    (s.blank d).wires = { s.wires with slots := s.wires.slots ++ [⟨0, 0, d⟩] } := rfl

@[simp] theorem State.blank_lines (s : State) (d : Micros) :
    (s.blank d).lines = s.lines := rfl

@[simp] theorem State.blank_stimuli (s : State) (d : Micros) :
    (s.blank d).stimuli = s.stimuli := rfl

@[simp] theorem State.blank_drawn (s : State) (d : Micros) :
    (s.blank d).drawn = s.drawn := rfl

@[simp] theorem State.blank_params (s : State) (d : Micros) :
    (s.blank d).params = s.params := rfl

/-! ### `lookup` -/

@[simp] theorem State.lookup_count (s : State) (d : Digit) :
    (s.lookup d).count = s.count := rfl

@[simp] theorem State.lookup_countdown (s : State) (d : Digit) :
    (s.lookup d).countdown = s.countdown := rfl

@[simp] theorem State.lookup_pendingRelease (s : State) (d : Digit) :
    (s.lookup d).pendingRelease = s.pendingRelease := rfl

@[simp] theorem State.lookup_lastSample (s : State) (d : Digit) :
    (s.lookup d).lastSample = s.lastSample := rfl

@[simp] theorem State.lookup_activity (s : State) (d : Digit) :
    (s.lookup d).activity = s.activity := rfl

@[simp] theorem State.lookup_mode (s : State) (d : Digit) :
    (s.lookup d).mode = s.mode := rfl

@[simp] theorem State.lookup_wakeEn (s : State) (d : Digit) :
    (s.lookup d).wakeEn = s.wakeEn := rfl

@[simp] theorem State.lookup_wakeRef (s : State) (d : Digit) :
    (s.lookup d).wakeRef = s.wakeRef := rfl

@[simp] theorem State.lookup_seg (s : State) (d : Digit) :
    (s.lookup d).seg = s.seg := rfl

@[simp] theorem State.lookup_sel (s : State) (d : Digit) :
    (s.lookup d).sel = s.sel := rfl

@[simp] theorem State.lookup_wires (s : State) (d : Digit) :
    (s.lookup d).wires = { s.wires with rom := some (segRom s.params d) } := rfl

@[simp] theorem State.lookup_lines (s : State) (d : Digit) :
    (s.lookup d).lines = s.lines := rfl

@[simp] theorem State.lookup_stimuli (s : State) (d : Digit) :
    (s.lookup d).stimuli = s.stimuli := rfl

@[simp] theorem State.lookup_drawn (s : State) (d : Digit) :
    (s.lookup d).drawn = s.drawn := rfl

@[simp] theorem State.lookup_params (s : State) (d : Digit) :
    (s.lookup d).params = s.params := rfl

/-! ### `light` -/

@[simp] theorem State.light_count (s : State) (p : Position) (d : Digit) :
    (s.light p d).count = s.count := rfl

@[simp] theorem State.light_countdown (s : State) (p : Position) (d : Digit) :
    (s.light p d).countdown = s.countdown := rfl

@[simp] theorem State.light_pendingRelease (s : State) (p : Position) (d : Digit) :
    (s.light p d).pendingRelease = s.pendingRelease := rfl

@[simp] theorem State.light_lastSample (s : State) (p : Position) (d : Digit) :
    (s.light p d).lastSample = s.lastSample := rfl

@[simp] theorem State.light_activity (s : State) (p : Position) (d : Digit) :
    (s.light p d).activity = s.activity := rfl

@[simp] theorem State.light_mode (s : State) (p : Position) (d : Digit) :
    (s.light p d).mode = s.mode := rfl

@[simp] theorem State.light_wakeEn (s : State) (p : Position) (d : Digit) :
    (s.light p d).wakeEn = s.wakeEn := rfl

@[simp] theorem State.light_wakeRef (s : State) (p : Position) (d : Digit) :
    (s.light p d).wakeRef = s.wakeRef := rfl

@[simp] theorem State.light_seg (s : State) (p : Position) (d : Digit) :
    (s.light p d).seg = segRom s.params d := rfl

@[simp] theorem State.light_sel (s : State) (p : Position) (d : Digit) :
    (s.light p d).sel = selv p (colorOf s.count) := rfl

@[simp] theorem State.light_wires (s : State) (p : Position) (d : Digit) :
    (s.light p d).wires = { s.wires with rom := some (segRom s.params d), slots := s.wires.slots ++ [⟨segRom s.params d, selv p (colorOf s.count), s.params.tDigit⟩] } := rfl

@[simp] theorem State.light_lines (s : State) (p : Position) (d : Digit) :
    (s.light p d).lines = s.lines := rfl

@[simp] theorem State.light_stimuli (s : State) (p : Position) (d : Digit) :
    (s.light p d).stimuli = s.stimuli := rfl

@[simp] theorem State.light_drawn (s : State) (p : Position) (d : Digit) :
    (s.light p d).drawn = s.drawn := rfl

@[simp] theorem State.light_params (s : State) (p : Position) (d : Digit) :
    (s.light p d).params = s.params := rfl

/-! ### `select` -/

@[simp] theorem State.select_count (s : State) :
    s.select.count = s.count := rfl

@[simp] theorem State.select_countdown (s : State) :
    s.select.countdown = s.countdown := rfl

@[simp] theorem State.select_pendingRelease (s : State) :
    s.select.pendingRelease = s.pendingRelease := rfl

@[simp] theorem State.select_lastSample (s : State) :
    s.select.lastSample = s.lastSample := rfl

@[simp] theorem State.select_activity (s : State) :
    s.select.activity = s.activity := rfl

@[simp] theorem State.select_mode (s : State) :
    s.select.mode = s.mode := rfl

@[simp] theorem State.select_wakeEn (s : State) :
    s.select.wakeEn = s.wakeEn := rfl

@[simp] theorem State.select_wakeRef (s : State) :
    s.select.wakeRef = s.wakeRef := rfl

@[simp] theorem State.select_seg (s : State) :
    s.select.seg = s.seg := rfl

@[simp] theorem State.select_sel (s : State) :
    s.select.sel = s.sel := rfl

@[simp] theorem State.select_wires (s : State) :
    s.select.wires = { s.wires with color := some (colorOf s.count), power := some s.powerState } := rfl

@[simp] theorem State.select_lines (s : State) :
    s.select.lines = s.lines := rfl

@[simp] theorem State.select_stimuli (s : State) :
    s.select.stimuli = s.stimuli := rfl

@[simp] theorem State.select_drawn (s : State) :
    s.select.drawn = s.drawn := rfl

@[simp] theorem State.select_params (s : State) :
    s.select.params = s.params := rfl

/-! ### `tick` -/

@[simp] theorem State.tick_count (s : State) :
    s.tick.count = s.count := by
  rcases h : s.wires.fire <;> simp [State.tick, h]

@[simp] theorem State.tick_countdown (s : State) :
    s.tick.countdown = s.countdown := by
  rcases h : s.wires.fire <;> simp [State.tick, h]

@[simp] theorem State.tick_pendingRelease (s : State) :
    s.tick.pendingRelease = s.pendingRelease := by
  rcases h : s.wires.fire <;> simp [State.tick, h]

@[simp] theorem State.tick_lastSample (s : State) :
    s.tick.lastSample = s.lastSample := by
  rcases h : s.wires.fire <;> simp [State.tick, h]

@[simp] theorem State.tick_activity (s : State) :
    s.tick.activity = if s.wires.fire then s.activity else s.activity + 1 := by
  rcases h : s.wires.fire <;> simp [State.tick, h]

@[simp] theorem State.tick_mode (s : State) :
    s.tick.mode = s.mode := by
  rcases h : s.wires.fire <;> simp [State.tick, h]

@[simp] theorem State.tick_wakeEn (s : State) :
    s.tick.wakeEn = s.wakeEn := by
  rcases h : s.wires.fire <;> simp [State.tick, h]

@[simp] theorem State.tick_wakeRef (s : State) :
    s.tick.wakeRef = s.wakeRef := by
  rcases h : s.wires.fire <;> simp [State.tick, h]

@[simp] theorem State.tick_seg (s : State) :
    s.tick.seg = s.seg := by
  rcases h : s.wires.fire <;> simp [State.tick, h]

@[simp] theorem State.tick_sel (s : State) :
    s.tick.sel = s.sel := by
  rcases h : s.wires.fire <;> simp [State.tick, h]

@[simp] theorem State.tick_wires (s : State) :
    s.tick.wires = s.wires := by
  rcases h : s.wires.fire <;> simp [State.tick, h]

@[simp] theorem State.tick_lines (s : State) :
    s.tick.lines = s.lines := by
  rcases h : s.wires.fire <;> simp [State.tick, h]

@[simp] theorem State.tick_stimuli (s : State) :
    s.tick.stimuli = s.stimuli := by
  rcases h : s.wires.fire <;> simp [State.tick, h]

@[simp] theorem State.tick_drawn (s : State) :
    s.tick.drawn = s.drawn := by
  rcases h : s.wires.fire <;> simp [State.tick, h]

@[simp] theorem State.tick_params (s : State) :
    s.tick.params = s.params := by
  rcases h : s.wires.fire <;> simp [State.tick, h]

/-! ### `sleepEnter` -/

@[simp] theorem State.sleepEnter_count (s : State) :
    s.sleepEnter.count = s.count := rfl

@[simp] theorem State.sleepEnter_countdown (s : State) :
    s.sleepEnter.countdown = s.countdown := rfl

@[simp] theorem State.sleepEnter_pendingRelease (s : State) :
    s.sleepEnter.pendingRelease = s.pendingRelease := rfl

@[simp] theorem State.sleepEnter_lastSample (s : State) :
    s.sleepEnter.lastSample = s.lastSample := rfl

@[simp] theorem State.sleepEnter_activity (s : State) :
    s.sleepEnter.activity = 0 := rfl

@[simp] theorem State.sleepEnter_mode (s : State) :
    s.sleepEnter.mode = .sleep := rfl

@[simp] theorem State.sleepEnter_wakeEn (s : State) :
    s.sleepEnter.wakeEn = true := rfl

@[simp] theorem State.sleepEnter_wakeRef (s : State) :
    s.sleepEnter.wakeRef = s.lines := rfl

@[simp] theorem State.sleepEnter_seg (s : State) :
    s.sleepEnter.seg = 0 := rfl

@[simp] theorem State.sleepEnter_sel (s : State) :
    s.sleepEnter.sel = 0 := rfl

@[simp] theorem State.sleepEnter_wires (s : State) :
    s.sleepEnter.wires = { s.wires with slots := s.wires.slots ++ [⟨0, 0, 0⟩] } := rfl

@[simp] theorem State.sleepEnter_lines (s : State) :
    s.sleepEnter.lines = s.lines := rfl

@[simp] theorem State.sleepEnter_stimuli (s : State) :
    s.sleepEnter.stimuli = s.stimuli := rfl

@[simp] theorem State.sleepEnter_drawn (s : State) :
    s.sleepEnter.drawn = s.drawn := rfl

@[simp] theorem State.sleepEnter_params (s : State) :
    s.sleepEnter.params = s.params := rfl

/-! ### `wake` -/

@[simp] theorem State.wake_count (s : State) :
    s.wake.count = s.count := rfl

@[simp] theorem State.wake_countdown (s : State) :
    s.wake.countdown = s.countdown := rfl

@[simp] theorem State.wake_pendingRelease (s : State) :
    s.wake.pendingRelease = s.pendingRelease := rfl

@[simp] theorem State.wake_lastSample (s : State) :
    s.wake.lastSample = s.lastSample := rfl

@[simp] theorem State.wake_activity (s : State) :
    s.wake.activity = s.activity := rfl

@[simp] theorem State.wake_mode (s : State) :
    s.wake.mode = .settle := rfl

@[simp] theorem State.wake_wakeEn (s : State) :
    s.wake.wakeEn = false := rfl

@[simp] theorem State.wake_wakeRef (s : State) :
    s.wake.wakeRef = s.wakeRef := rfl

@[simp] theorem State.wake_seg (s : State) :
    s.wake.seg = s.seg := rfl

@[simp] theorem State.wake_sel (s : State) :
    s.wake.sel = s.sel := rfl

@[simp] theorem State.wake_wires (s : State) :
    s.wake.wires = s.wires := rfl

@[simp] theorem State.wake_lines (s : State) :
    s.wake.lines = s.lines := rfl

@[simp] theorem State.wake_stimuli (s : State) :
    s.wake.stimuli = s.stimuli := rfl

@[simp] theorem State.wake_drawn (s : State) :
    s.wake.drawn = s.drawn := rfl

@[simp] theorem State.wake_params (s : State) :
    s.wake.params = s.params := rfl

/-! ### `examineLines` -/

@[simp] theorem State.examineLines_count (s : State) :
    s.examineLines.count = s.count := by
  rcases h : s.wakeEn && fallingEdge s.wakeRef s.lines <;> simp [State.examineLines, State.wake, h]

@[simp] theorem State.examineLines_countdown (s : State) :
    s.examineLines.countdown = s.countdown := by
  rcases h : s.wakeEn && fallingEdge s.wakeRef s.lines <;> simp [State.examineLines, State.wake, h]

@[simp] theorem State.examineLines_pendingRelease (s : State) :
    s.examineLines.pendingRelease = s.pendingRelease := by
  rcases h : s.wakeEn && fallingEdge s.wakeRef s.lines <;> simp [State.examineLines, State.wake, h]

@[simp] theorem State.examineLines_lastSample (s : State) :
    s.examineLines.lastSample = s.lastSample := by
  rcases h : s.wakeEn && fallingEdge s.wakeRef s.lines <;> simp [State.examineLines, State.wake, h]

@[simp] theorem State.examineLines_activity (s : State) :
    s.examineLines.activity = s.activity := by
  rcases h : s.wakeEn && fallingEdge s.wakeRef s.lines <;> simp [State.examineLines, State.wake, h]

@[simp] theorem State.examineLines_mode (s : State) :
    s.examineLines.mode = if s.wakeEn && fallingEdge s.wakeRef s.lines then .settle else s.mode := by
  rcases h : s.wakeEn && fallingEdge s.wakeRef s.lines <;> simp [State.examineLines, State.wake, h]

@[simp] theorem State.examineLines_wakeEn (s : State) :
    s.examineLines.wakeEn = if s.wakeEn && fallingEdge s.wakeRef s.lines then false else s.wakeEn := by
  rcases h : s.wakeEn && fallingEdge s.wakeRef s.lines <;> simp [State.examineLines, State.wake, h]

@[simp] theorem State.examineLines_wakeRef (s : State) :
    s.examineLines.wakeRef = s.lines := by
  rcases h : s.wakeEn && fallingEdge s.wakeRef s.lines <;> simp [State.examineLines, State.wake, h]

@[simp] theorem State.examineLines_seg (s : State) :
    s.examineLines.seg = s.seg := by
  rcases h : s.wakeEn && fallingEdge s.wakeRef s.lines <;> simp [State.examineLines, State.wake, h]

@[simp] theorem State.examineLines_sel (s : State) :
    s.examineLines.sel = s.sel := by
  rcases h : s.wakeEn && fallingEdge s.wakeRef s.lines <;> simp [State.examineLines, State.wake, h]

@[simp] theorem State.examineLines_wires (s : State) :
    s.examineLines.wires = s.wires := by
  rcases h : s.wakeEn && fallingEdge s.wakeRef s.lines <;> simp [State.examineLines, State.wake, h]

@[simp] theorem State.examineLines_lines (s : State) :
    s.examineLines.lines = s.lines := by
  rcases h : s.wakeEn && fallingEdge s.wakeRef s.lines <;> simp [State.examineLines, State.wake, h]

@[simp] theorem State.examineLines_stimuli (s : State) :
    s.examineLines.stimuli = s.stimuli := by
  rcases h : s.wakeEn && fallingEdge s.wakeRef s.lines <;> simp [State.examineLines, State.wake, h]

@[simp] theorem State.examineLines_drawn (s : State) :
    s.examineLines.drawn = s.drawn := by
  rcases h : s.wakeEn && fallingEdge s.wakeRef s.lines <;> simp [State.examineLines, State.wake, h]

@[simp] theorem State.examineLines_params (s : State) :
    s.examineLines.params = s.params := by
  rcases h : s.wakeEn && fallingEdge s.wakeRef s.lines <;> simp [State.examineLines, State.wake, h]

/-! ### `resume` -/

@[simp] theorem State.resume_count (s : State) :
    s.resume.count = s.count := rfl

@[simp] theorem State.resume_countdown (s : State) :
    s.resume.countdown = s.countdown := rfl

@[simp] theorem State.resume_pendingRelease (s : State) :
    s.resume.pendingRelease = s.pendingRelease := rfl

@[simp] theorem State.resume_lastSample (s : State) :
    s.resume.lastSample = s.lastSample := rfl

@[simp] theorem State.resume_activity (s : State) :
    s.resume.activity = s.activity := rfl

@[simp] theorem State.resume_mode (s : State) :
    s.resume.mode = .run := rfl

@[simp] theorem State.resume_wakeEn (s : State) :
    s.resume.wakeEn = s.wakeEn := rfl

@[simp] theorem State.resume_wakeRef (s : State) :
    s.resume.wakeRef = s.wakeRef := rfl

@[simp] theorem State.resume_seg (s : State) :
    s.resume.seg = s.seg := rfl

@[simp] theorem State.resume_sel (s : State) :
    s.resume.sel = s.sel := rfl

@[simp] theorem State.resume_wires (s : State) :
    s.resume.wires = { s.wires with delay := some s.params.tSettle } := rfl

@[simp] theorem State.resume_lines (s : State) :
    s.resume.lines = s.lines := rfl

@[simp] theorem State.resume_stimuli (s : State) :
    s.resume.stimuli = s.stimuli := rfl

@[simp] theorem State.resume_drawn (s : State) :
    s.resume.drawn = s.drawn := rfl

@[simp] theorem State.resume_params (s : State) :
    s.resume.params = s.params := rfl

/-! ### `sampleIdle` -/

@[simp] theorem State.sampleIdle_count (s : State) :
    s.sampleIdle.count = s.count := rfl

@[simp] theorem State.sampleIdle_countdown (s : State) :
    s.sampleIdle.countdown = s.params.debounceCount := rfl

@[simp] theorem State.sampleIdle_pendingRelease (s : State) :
    s.sampleIdle.pendingRelease = false := rfl

@[simp] theorem State.sampleIdle_lastSample (s : State) :
    s.sampleIdle.lastSample = if s.params.idleUpdatesLast then 0b11#2 else s.lastSample := rfl

@[simp] theorem State.sampleIdle_activity (s : State) :
    s.sampleIdle.activity = s.activity := rfl

@[simp] theorem State.sampleIdle_mode (s : State) :
    s.sampleIdle.mode = s.mode := rfl

@[simp] theorem State.sampleIdle_wakeEn (s : State) :
    s.sampleIdle.wakeEn = s.wakeEn := rfl

@[simp] theorem State.sampleIdle_wakeRef (s : State) :
    s.sampleIdle.wakeRef = s.wakeRef := rfl

@[simp] theorem State.sampleIdle_seg (s : State) :
    s.sampleIdle.seg = s.seg := rfl

@[simp] theorem State.sampleIdle_sel (s : State) :
    s.sampleIdle.sel = s.sel := rfl

@[simp] theorem State.sampleIdle_wires (s : State) :
    s.sampleIdle.wires = { s.wires with fire := false, zeroRelease := s.idleZeroRelease } := rfl

@[simp] theorem State.sampleIdle_lines (s : State) :
    s.sampleIdle.lines = s.lines := rfl

@[simp] theorem State.sampleIdle_stimuli (s : State) :
    s.sampleIdle.stimuli = s.stimuli := rfl

@[simp] theorem State.sampleIdle_drawn (s : State) :
    s.sampleIdle.drawn = s.drawn := rfl

@[simp] theorem State.sampleIdle_params (s : State) :
    s.sampleIdle.params = s.params := rfl

/-! ### `samplePress` -/

@[simp] theorem State.samplePress_count (s : State) (raw : Levels) (f : Count → Count) :
    (s.samplePress raw f).count = if s.firesOn raw then f s.count else s.count := by
  rcases h : s.firesOn raw <;> rcases m : s.matching raw <;> simp [State.samplePress, State.acceptPress, h, m]

@[simp] theorem State.samplePress_countdown (s : State) (raw : Levels) (f : Count → Count) :
    (s.samplePress raw f).countdown = if s.firesOn raw then s.params.debounceCount else if s.matching raw then s.countdownLessOne else s.params.debounceCount := by
  rcases h : s.firesOn raw <;> rcases m : s.matching raw <;> simp [State.samplePress, State.acceptPress, h, m]

@[simp] theorem State.samplePress_pendingRelease (s : State) (raw : Levels) (f : Count → Count) :
    (s.samplePress raw f).pendingRelease = (s.firesOn raw || s.pendingRelease) := by
  rcases h : s.firesOn raw <;> rcases m : s.matching raw <;> simp [State.samplePress, State.acceptPress, h, m]

@[simp] theorem State.samplePress_lastSample (s : State) (raw : Levels) (f : Count → Count) :
    (s.samplePress raw f).lastSample = raw := by
  rcases h : s.firesOn raw <;> rcases m : s.matching raw <;> simp [State.samplePress, State.acceptPress, h, m]

@[simp] theorem State.samplePress_activity (s : State) (raw : Levels) (f : Count → Count) :
    (s.samplePress raw f).activity = if s.firesOn raw then 0 else s.activity := by
  rcases h : s.firesOn raw <;> rcases m : s.matching raw <;> simp [State.samplePress, State.acceptPress, h, m]

@[simp] theorem State.samplePress_mode (s : State) (raw : Levels) (f : Count → Count) :
    (s.samplePress raw f).mode = s.mode := by
  rcases h : s.firesOn raw <;> rcases m : s.matching raw <;> simp [State.samplePress, State.acceptPress, h, m]

@[simp] theorem State.samplePress_wakeEn (s : State) (raw : Levels) (f : Count → Count) :
    (s.samplePress raw f).wakeEn = s.wakeEn := by
  rcases h : s.firesOn raw <;> rcases m : s.matching raw <;> simp [State.samplePress, State.acceptPress, h, m]

@[simp] theorem State.samplePress_wakeRef (s : State) (raw : Levels) (f : Count → Count) :
    (s.samplePress raw f).wakeRef = s.wakeRef := by
  rcases h : s.firesOn raw <;> rcases m : s.matching raw <;> simp [State.samplePress, State.acceptPress, h, m]

@[simp] theorem State.samplePress_seg (s : State) (raw : Levels) (f : Count → Count) :
    (s.samplePress raw f).seg = s.seg := by
  rcases h : s.firesOn raw <;> rcases m : s.matching raw <;> simp [State.samplePress, State.acceptPress, h, m]

@[simp] theorem State.samplePress_sel (s : State) (raw : Levels) (f : Count → Count) :
    (s.samplePress raw f).sel = s.sel := by
  rcases h : s.firesOn raw <;> rcases m : s.matching raw <;> simp [State.samplePress, State.acceptPress, h, m]

@[simp] theorem State.samplePress_wires (s : State) (raw : Levels) (f : Count → Count) :
    (s.samplePress raw f).wires = { s.wires with fire := s.firesOn raw, zeroRelease := false } := by
  rcases h : s.firesOn raw <;> rcases m : s.matching raw <;> simp [State.samplePress, State.acceptPress, h, m]

@[simp] theorem State.samplePress_lines (s : State) (raw : Levels) (f : Count → Count) :
    (s.samplePress raw f).lines = s.lines := by
  rcases h : s.firesOn raw <;> rcases m : s.matching raw <;> simp [State.samplePress, State.acceptPress, h, m]

@[simp] theorem State.samplePress_stimuli (s : State) (raw : Levels) (f : Count → Count) :
    (s.samplePress raw f).stimuli = s.stimuli := by
  rcases h : s.firesOn raw <;> rcases m : s.matching raw <;> simp [State.samplePress, State.acceptPress, h, m]

@[simp] theorem State.samplePress_drawn (s : State) (raw : Levels) (f : Count → Count) :
    (s.samplePress raw f).drawn = s.drawn := by
  rcases h : s.firesOn raw <;> rcases m : s.matching raw <;> simp [State.samplePress, State.acceptPress, h, m]

@[simp] theorem State.samplePress_params (s : State) (raw : Levels) (f : Count → Count) :
    (s.samplePress raw f).params = s.params := by
  rcases h : s.firesOn raw <;> rcases m : s.matching raw <;> simp [State.samplePress, State.acceptPress, h, m]

end Sys2Proof.Machine
end

