-- ==== Sys2Proof/Laws/Operands.lean ====
section
/-! SUPPORT. What the operand and signal functions can answer, once each. -/

namespace Sys2Proof.Machine

theorem countUp_toNat (c : Count) : (countUp c).toNat = min (c.toNat + 1) 99 := by
  simp only [countUp, BitVec.toNat_ofNat]
  omega

theorem countDown_toNat (c : Count) : (countDown c).toNat = c.toNat - 1 := by
  have hc := c.isLt
  simp only [countDown, BitVec.toNat_ofInt]
  omega

theorem countUp_le (c : Count) : (countUp c).toNat ≤ 99 := by
  rw [countUp_toNat]; omega

theorem countDown_le (c : Count) (h : c.toNat ≤ 99) : (countDown c).toNat ≤ 99 := by
  rw [countDown_toNat]; omega

theorem unitsDigit_val (c : Count) : (unitsDigit c).val = c.toNat % 10 := by
  simp [unitsDigit, Fin.ofNat]

theorem tensDigit_val (c : Count) (h : c.toNat ≤ 99) : (tensDigit c).val = c.toNat / 10 := by
  simp only [tensDigit, Fin.ofNat]
  omega

theorem selLegal_selv (p : Position) (c : Color) : selLegal (selv p c) = true := by
  cases p <;> cases c <;> rfl

theorem selLegal_zero : selLegal 0 = true := rfl

theorem colorOf_green_iff (c : Count) : colorOf c = .green ↔ c.toNat = 1 := by
  simp only [colorOf, beq_iff_eq]
  split <;> rename_i h
  · simp [h]
  · simp only [reduceCtorEq, false_iff]
    intro e
    exact h (BitVec.eq_of_toNat_eq e)

theorem powerState_off_iff (p : Params) (a : Nat) : powerState p a = .off ↔ p.shutoffThreshold ≤ a := by
  unfold powerState
  split <;> rename_i h
  · simp [h]
  · split <;> simp [h]

theorem powerState_dimmed_iff (p : Params) (a : Nat) :
    powerState p a = .dimmed ↔ p.dimThreshold ≤ a ∧ a < p.shutoffThreshold := by
  unfold powerState
  split <;> rename_i h
  · simp; omega
  · split <;> rename_i h2 <;> simp <;> omega

theorem powerState_normal_iff (p : Params) (a : Nat) :
    powerState p a = .normal ↔ a < p.dimThreshold ∧ a < p.shutoffThreshold := by
  unfold powerState
  split <;> rename_i h
  · simp; omega
  · split <;> rename_i h2 <;> simp <;> omega

theorem fallingEdge_iff (ref lv : Levels) :
    fallingEdge ref lv = true ↔ ∃ i, i < 2 ∧ ref.getLsbD i = true ∧ lv.getLsbD i = false := by
  unfold fallingEdge
  constructor
  · intro h
    rcases Bool.or_eq_true _ _ ▸ h with h | h
    · exact ⟨0, by omega, by simpa using h⟩
    · exact ⟨1, by omega, by simpa using h⟩
  · rintro ⟨i, hi, h1, h2⟩
    have : i = 0 ∨ i = 1 := by omega
    rcases this with rfl | rfl
    · rw [h1, h2]; rfl
    · rw [h1, h2]; exact Bool.or_true _

theorem State.matching_iff (s : State) (raw : Levels) :
    s.matching raw = true ↔ raw = s.lastSample ∧ s.pendingRelease = false := by
  simp [State.matching]

/-- A press is accepted exactly on a matching sample whose decrement reaches zero (R76). -/
theorem State.firesOn_iff (s : State) (raw : Levels) :
    s.firesOn raw = true ↔ s.matching raw = true ∧ s.countdownLessOne = 0 := by
  simp [State.firesOn]

theorem State.countdownLessOne_of_pos (s : State) (h : 1 ≤ s.countdown) : s.countdownLessOne = s.countdown - 1 := by
  simp only [State.countdownLessOne]
  rw [if_neg (by omega)]

/-- Where the decrement is defined, a fire is a matching sample at `countdown = 1` (R76). -/
theorem State.firesOn_iff_of_pos (s : State) (raw : Levels) (h : 1 ≤ s.countdown) :
    s.firesOn raw = true ↔ raw = s.lastSample ∧ s.pendingRelease = false ∧ s.countdown = 1 := by
  rw [firesOn_iff, matching_iff, s.countdownLessOne_of_pos h, and_assoc]
  constructor
  · rintro ⟨a, b, c⟩; exact ⟨a, b, by omega⟩
  · rintro ⟨a, b, c⟩; exact ⟨a, b, by omega⟩

theorem State.admissible_iff (s : State) :
    s.admissible = true ↔ s.params.legal = true ∧ s.count.toNat ≤ 99 ∧ selLegal s.sel = true := by
  simp [State.admissible, and_assoc]

theorem Params.legal_iff (p : Params) :
    p.legal = true ↔ 1 ≤ p.debounceCount ∧ (0 < p.dimThreshold ∧ p.dimThreshold < p.shutoffThreshold) ∧
      0 ≤ p.tDigit ∧ 0 ≤ p.tDim ∧ 0 ≤ p.tSettle ∧ 0 ≤ p.tGap ∧ 0 ≤ p.tLoop := by
  simp [Params.legal, Params.debounceLegal, Params.thresholdsLegal, Params.durationsLegal, and_assoc]

end Sys2Proof.Machine
end

