-- ==== Sys2Proof/Laws/Ops.lean ====
section
/-! SUPPORT. What each shared operation can do, said once. -/

namespace Sys2Proof.Machine

/-! ### Admission and mode -/

theorem State.guarded_of_admissible (s : State) (f : State → State) (h : s.admissible = true) :
    s.guarded f = .next (f s) := by
  obtain ⟨h1, h2, h3⟩ := s.admissible_iff.mp h
  simp [State.guarded, h1, h3, Nat.not_lt.mpr h2]

/-- An admitted operation answers a next state exactly from the admissible states, and that state is its effect. -/
theorem State.guarded_next_iff (s : State) (f : State → State) (t : State) :
    s.guarded f = .next t ↔ s.admissible = true ∧ t = f s := by
  constructor
  · intro h
    simp only [State.guarded] at h
    split at h
    · cases h
    · split at h
      · cases h
      · split at h
        · cases h
        · rename_i h1 h2 h3
          refine ⟨s.admissible_iff.mpr ⟨by simpa using h1, by omega, by simpa using h3⟩, ?_⟩
          injection h with h; exact h.symm
  · rintro ⟨h, rfl⟩
    exact s.guarded_of_admissible f h

theorem State.inMode_self (s : State) (m : Mode) (f : State → State) (h : s.mode = m) : s.inMode m f = f s := by
  simp [State.inMode, h]

theorem State.inMode_other (s : State) (m : Mode) (f : State → State) (h : s.mode ≠ m) : s.inMode m f = s := by
  simp [State.inMode, h]

/-! ### The sample -/

/-- The registers `sample` never writes (R70). -/
theorem State.sample_frame (s : State) (op : RawOp) :
    (s.sample op).mode = s.mode ∧ (s.sample op).wakeEn = s.wakeEn ∧ (s.sample op).wakeRef = s.wakeRef ∧
      (s.sample op).seg = s.seg ∧ (s.sample op).sel = s.sel ∧ (s.sample op).lines = s.lines ∧
      (s.sample op).stimuli = s.stimuli ∧ (s.sample op).drawn = s.drawn ∧ (s.sample op).params = s.params := by
  cases op <;> simp [State.sample, State.sampleDown, State.sampleUp, State.sampleBoth]

@[simp] theorem State.sample_mode (s : State) (op : RawOp) : (s.sample op).mode = s.mode := (s.sample_frame op).1

@[simp] theorem State.sample_wakeEn (s : State) (op : RawOp) : (s.sample op).wakeEn = s.wakeEn := (s.sample_frame op).2.1

@[simp] theorem State.sample_wakeRef (s : State) (op : RawOp) : (s.sample op).wakeRef = s.wakeRef :=
  (s.sample_frame op).2.2.1

@[simp] theorem State.sample_seg (s : State) (op : RawOp) : (s.sample op).seg = s.seg := (s.sample_frame op).2.2.2.1

@[simp] theorem State.sample_sel (s : State) (op : RawOp) : (s.sample op).sel = s.sel := (s.sample_frame op).2.2.2.2.1

@[simp] theorem State.sample_lines (s : State) (op : RawOp) : (s.sample op).lines = s.lines :=
  (s.sample_frame op).2.2.2.2.2.1

@[simp] theorem State.sample_stimuli (s : State) (op : RawOp) : (s.sample op).stimuli = s.stimuli :=
  (s.sample_frame op).2.2.2.2.2.2.1

@[simp] theorem State.sample_drawn (s : State) (op : RawOp) : (s.sample op).drawn = s.drawn :=
  (s.sample_frame op).2.2.2.2.2.2.2.1

@[simp] theorem State.sample_params (s : State) (op : RawOp) : (s.sample op).params = s.params :=
  (s.sample_frame op).2.2.2.2.2.2.2.2

/-- Nothing but the two event wires changes among the wires of a sample. -/
@[simp] theorem State.sample_slots (s : State) (op : RawOp) : (s.sample op).wires.slots = s.wires.slots := by
  cases op <;> simp [State.sample, State.sampleDown, State.sampleUp, State.sampleBoth]

@[simp] theorem State.sample_delay (s : State) (op : RawOp) : (s.sample op).wires.delay = s.wires.delay := by
  cases op <;> simp [State.sample, State.sampleDown, State.sampleUp, State.sampleBoth]

@[simp] theorem State.sample_rom (s : State) (op : RawOp) : (s.sample op).wires.rom = s.wires.rom := by
  cases op <;> simp [State.sample, State.sampleDown, State.sampleUp, State.sampleBoth]

/-- The event `fire` of a sample: never on IDLE, else as R76. -/
theorem State.sample_fire (s : State) (op : RawOp) :
    (s.sample op).wires.fire = (op != .idle && s.firesOn op.bits) := by
  cases op <;> simp [State.sample, State.sampleDown, State.sampleUp, State.sampleBoth, RawOp.bits]

/-- The event `zero_release` of a sample: only on IDLE (R71). -/
theorem State.sample_zeroRelease (s : State) (op : RawOp) :
    (s.sample op).wires.zeroRelease = (op == .idle && s.idleZeroRelease) := by
  cases op <;> simp [State.sample, State.sampleDown, State.sampleUp, State.sampleBoth]

/-- A sample clears `activity` exactly at a fire (R76). -/
theorem State.sample_activity (s : State) (op : RawOp) :
    (s.sample op).activity = if (s.sample op).wires.fire then 0 else s.activity := by
  cases op <;> simp [State.sample, State.sampleDown, State.sampleUp, State.sampleBoth]

/-- Saturation: a sample keeps the count in 0 to 99 (R37 (a), R80). -/
theorem State.sample_count_le (s : State) (op : RawOp) (h : s.count.toNat ≤ 99) : (s.sample op).count.toNat ≤ 99 := by
  cases op <;> simp only [State.sample, State.sampleDown, State.sampleUp, State.sampleBoth, State.sampleIdle_count,
    State.samplePress_count] <;> first | exact h | skip
  · split <;> first | exact countDown_le _ h | exact h
  · split <;> first | exact countUp_le _ | exact h
  · split <;> exact h

/-! ### The renders -/

theorem State.tensSlot_eq (s : State) :
    s.tensSlot = if 10 ≤ s.count.toNat then s.light .tens (tensDigit s.count) else s.blank s.params.tDigit := rfl

/-- What a Normal or Dimmed render leaves: both outputs blank, the four slots appended, every other register as it was. -/
theorem State.renderDigits_eq (s : State) (a b : Micros) :
    s.renderDigits a b =
      { s with
        seg := 0
        sel := 0
        wires := { s.wires with
          rom := some (segRom s.params (if 10 ≤ s.count.toNat then tensDigit s.count else unitsDigit s.count))
          slots := s.wires.slots ++
            [⟨segRom s.params (unitsDigit s.count), selv .units (colorOf s.count), s.params.tDigit⟩, ⟨0, 0, a⟩,
              if 10 ≤ s.count.toNat then
                ⟨segRom s.params (tensDigit s.count), selv .tens (colorOf s.count), s.params.tDigit⟩
              else ⟨0, 0, s.params.tDigit⟩,
              ⟨0, 0, b⟩] } } := by
  by_cases h : 10 ≤ s.count.toNat <;>
    simp [State.renderDigits, State.tensSlot, State.light, State.blank, State.lookup, State.emit, h]

/-! ### One step -/

/-- Everything the operation of a mode can do. -/
theorem exec_sequenced (s : State) :
    exec s.sequenced s = s.guarded fun u =>
      match s.mode with
      | .run => u.iteration
      | .sleep => u.sleepStep
      | .settle => u.settleStep := by
  rcases h : s.mode <;>
    simp [State.sequenced, Mode.instr, h, exec, execModeRun, execModeSleep, execModeSettle, State.guarded, State.inMode]

/-- Everything a step can do: a reset, or one step of the mode. -/
theorem step_cases {s t : State} (h : step s = .next t) :
    (s.ports.rst = true ∧ s.params.legal = true ∧ t = s.powerOn) ∨
      (s.ports.rst = false ∧ s.admissible = true ∧
        ((s.mode = .run ∧ t = s.iteration) ∨ (s.mode = .sleep ∧ t = s.sleepStep) ∨
          (s.mode = .settle ∧ t = s.settleStep))) := by
  unfold step at h
  split at h
  · rename_i hr
    simp only [State.takeReset] at h
    split at h
    · cases h
    · rename_i hl
      injection h with h
      exact .inl ⟨hr, by simpa using hl, h.symm⟩
  · rename_i hr
    rw [exec_sequenced, State.guarded_next_iff] at h
    obtain ⟨ha, ht⟩ := h
    refine .inr ⟨by simpa using hr, ha, ?_⟩
    rcases hm : s.mode <;> simp only [hm] at ht <;> simp [ht]

theorem step_reset (s : State) (hr : s.ports.rst = true) (hl : s.params.legal = true) : step s = .next s.powerOn := by
  simp [step, hr, State.takeReset, hl]

theorem step_run (s : State) (hr : s.ports.rst = false) (ha : s.admissible = true) (hm : s.mode = .run) :
    step s = .next s.iteration := by
  simp [step, hr, exec_sequenced, State.guarded_of_admissible s _ ha, hm]

theorem step_sleep (s : State) (hr : s.ports.rst = false) (ha : s.admissible = true) (hm : s.mode = .sleep) :
    step s = .next s.sleepStep := by
  simp [step, hr, exec_sequenced, State.guarded_of_admissible s _ ha, hm]

theorem step_settle (s : State) (hr : s.ports.rst = false) (ha : s.admissible = true) (hm : s.mode = .settle) :
    step s = .next s.settleStep := by
  simp [step, hr, exec_sequenced, State.guarded_of_admissible s _ ha, hm]

/-- One more step of a run, at its front. -/
theorem core_run_succ (k : Nat) (s : State) :
    Host.Core.run Sys2Proof.core (k + 1) s =
      match step s with
      | .next t => Host.Core.run Sys2Proof.core k t
      | .fault r => .fault r
      | .refused r => .refused r := by
  have e : Sys2Proof.core.step s = step s := rfl
  simp only [Host.Core.run]
  rcases h : step s with t | f | r <;> rw [h] at e <;> simp [e]

/-- One more step of a run, at its end. -/
theorem core_run_add_one (k : Nat) (s t : State) (h : Host.Core.run Sys2Proof.core k s = .next t) :
    Host.Core.run Sys2Proof.core (k + 1) s = step t := by
  induction k generalizing s with
  | zero =>
    rw [core_run_succ]
    injection h with h
    subst h
    rcases step s <;> rfl
  | succ k ih =>
    rw [core_run_succ] at h ⊢
    rcases hs : step s with u | f | r
    · rw [hs] at h
      exact ih u h
    · rw [hs] at h; cases h
    · rw [hs] at h; cases h

/-! ### The iteration -/

theorem State.tick_eq (s : State) :
    s.tick = { s with activity := if s.wires.fire then s.activity else s.activity + 1 } := by
  rcases h : s.wires.fire <;> simp [State.tick, h]

/-- A render that is no Off entry, as one record. -/
theorem State.render_eq (s : State) (ps : PowerState) (h : ps ≠ .off) :
    s.render ps = s.renderDigits (if ps = .dimmed then s.params.tGap + s.params.tDim else s.params.tGap)
      (if ps = .dimmed then s.params.tGap + s.params.tDim + s.params.tLoop else s.params.tGap + s.params.tLoop) := by
  cases ps
  · rfl
  · rfl
  · exact absurd rfl h

/-- What the start of an iteration leaves (R50): quiet wires, the lines taken, every register as it was. -/
theorem State.beginIteration_eq (s : State) :
    s.beginIteration = { s.takePorts with wires := Wires.quiet } := by
  rcases h : s.stimuli with _ | ⟨p, ps⟩ <;> simp [State.beginIteration, State.clearWires, State.takePorts, h]

@[simp] theorem State.beginIteration_count (s : State) : s.beginIteration.count = s.count := by
  simp [State.beginIteration]

@[simp] theorem State.beginIteration_countdown (s : State) : s.beginIteration.countdown = s.countdown := by
  simp [State.beginIteration]

@[simp] theorem State.beginIteration_pendingRelease (s : State) :
    s.beginIteration.pendingRelease = s.pendingRelease := by
  simp [State.beginIteration]

@[simp] theorem State.beginIteration_lastSample (s : State) : s.beginIteration.lastSample = s.lastSample := by
  simp [State.beginIteration]

@[simp] theorem State.beginIteration_activity (s : State) : s.beginIteration.activity = s.activity := by
  simp [State.beginIteration]

@[simp] theorem State.beginIteration_mode (s : State) : s.beginIteration.mode = s.mode := by
  simp [State.beginIteration]

@[simp] theorem State.beginIteration_wakeEn (s : State) : s.beginIteration.wakeEn = s.wakeEn := by
  simp [State.beginIteration]

@[simp] theorem State.beginIteration_wakeRef (s : State) : s.beginIteration.wakeRef = s.wakeRef := by
  simp [State.beginIteration]

@[simp] theorem State.beginIteration_seg (s : State) : s.beginIteration.seg = s.seg := by
  simp [State.beginIteration]

@[simp] theorem State.beginIteration_sel (s : State) : s.beginIteration.sel = s.sel := by
  simp [State.beginIteration]

@[simp] theorem State.beginIteration_wires (s : State) : s.beginIteration.wires = Wires.quiet := by
  simp [State.beginIteration]

@[simp] theorem State.beginIteration_lines (s : State) : s.beginIteration.lines = s.ports.lines := by
  simp [State.beginIteration, State.ports, State.clearWires]

@[simp] theorem State.beginIteration_stimuli (s : State) : s.beginIteration.stimuli = s.stimuli.tail := by
  simp [State.beginIteration]

@[simp] theorem State.beginIteration_params (s : State) : s.beginIteration.params = s.params := by
  simp [State.beginIteration]

theorem State.beginIteration_admissible (s : State) (h : s.admissible = true) : s.beginIteration.admissible = true := by
  simpa [State.admissible] using h

theorem State.sample_admissible (s : State) (op : RawOp) (h : s.admissible = true) : (s.sample op).admissible = true := by
  rw [State.admissible_iff] at *
  simp [h, State.sample_count_le s op h.2.1]

/-- In RUN, the meaning of a sample's row is the operation `sample` with that value. -/
theorem exec_rawOp (s : State) (op : RawOp) (ha : s.admissible = true) (hm : s.mode = .run) :
    exec op.instr s = .next (s.sample op) := by
  cases op <;> simp [RawOp.instr, exec, execIdle, execDown, execUp, execBoth, State.guarded_of_admissible s _ ha,
    State.inMode, hm, State.sample]

/-- In RUN, the meaning of a PowerState's row is the render it selects. -/
theorem exec_powerState (s : State) (ps : PowerState) (ha : s.admissible = true) (hm : s.mode = .run) :
    exec ps.instr s = .next (s.render ps) := by
  cases ps <;> simp [PowerState.instr, exec, execRenderNormal, execRenderDimmed, execRenderOff,
    State.guarded_of_admissible s _ ha, State.inMode, hm, State.render]

/-- The state after `sample` inside the iteration. -/
def State.sampled (s : State) : State := s.beginIteration.sample (RawOp.ofBits s.beginIteration.lines)

theorem State.iteration_eq (s : State) : s.iteration = s.sampled.finishIteration := rfl

/-- The causes of the Off entry, on the sampled state (R125). -/
theorem State.select_offCause (u : State) :
    u.select.offCause = true ↔ u.wires.zeroRelease = true ∨ u.powerState = .off := by
  simp [State.offCause, State.powerState]

/-- The iteration with a cause of the Off entry (R125, R126). -/
theorem State.iteration_off (s : State) (h : s.sampled.wires.zeroRelease = true ∨ s.sampled.powerState = .off) :
    s.iteration = s.sampled.select.sleepEnter := by
  rw [← State.select_offCause] at h
  simp [State.iteration_eq, State.finishIteration, h]

/-- The iteration without one: a render of the PowerState and TICK (R150). -/
theorem State.iteration_render (s : State)
    (h : ¬ (s.sampled.wires.zeroRelease = true ∨ s.sampled.powerState = .off)) :
    s.iteration = (s.sampled.select.render s.sampled.powerState).tick := by
  have h' : s.sampled.select.offCause = false := by
    rw [← State.select_offCause] at h
    simpa using h
  simp only [State.iteration_eq, State.finishIteration, h']
  rfl

/-- The iteration takes the Off entry exactly on its causes (R125), else renders and ticks (R150). -/
theorem State.finishIteration_cases (u : State) :
    (u.select.offCause = true ∧ u.finishIteration = u.select.sleepEnter) ∨
      (u.select.offCause = false ∧ u.finishIteration = (u.select.render u.powerState).tick) := by
  rcases h : u.select.offCause
  · exact .inr ⟨rfl, by simp only [State.finishIteration, h]; rfl⟩
  · exact .inl ⟨rfl, by simp [State.finishIteration, h]⟩

end Sys2Proof.Machine
end

