-- ==== Sys2Proof/Laws/Iteration.lean ====
section
/-! SUPPORT. What one step of each mode leaves, as one summary per step, and runs of samples. -/

namespace Sys2Proof.Machine

/-! ### Samples -/

/-- A non-idle sample, where the decrement is defined: every field it leaves, from the fields before (R70, R72 to R76). -/
theorem State.samplePress_eq_of_pos (s : State) (raw : Levels) (f : Count → Count) (hc : 1 ≤ s.countdown) :
    s.samplePress raw f = { s with
      count := if s.lastSample = raw ∧ s.pendingRelease = false ∧ s.countdown = 1 then f s.count else s.count
      countdown := if s.lastSample = raw ∧ s.pendingRelease = false ∧ s.countdown ≠ 1
        then s.countdown - 1 else s.params.debounceCount
      pendingRelease := decide (s.lastSample = raw ∧ s.countdown = 1) || s.pendingRelease
      activity := if s.lastSample = raw ∧ s.pendingRelease = false ∧ s.countdown = 1 then 0 else s.activity
      lastSample := raw
      wires := { s.wires with
        fire := decide (s.lastSample = raw ∧ s.pendingRelease = false ∧ s.countdown = 1)
        zeroRelease := false } } := by
  have hf : s.firesOn raw = decide (s.lastSample = raw ∧ s.pendingRelease = false ∧ s.countdown = 1) := by
    rw [Bool.eq_iff_iff, s.firesOn_iff_of_pos raw hc, decide_eq_true_iff, eq_comm]
  have hm : s.matching raw = decide (s.lastSample = raw ∧ s.pendingRelease = false) := by
    rw [Bool.eq_iff_iff, s.matching_iff, decide_eq_true_iff, eq_comm]
  simp only [State.samplePress, State.acceptPress, hf, hm, s.countdownLessOne_of_pos hc]
  by_cases h1 : s.lastSample = raw <;> by_cases h2 : s.countdown = 1 <;> rcases h3 : s.pendingRelease <;>
    simp [h1, h2]

/-- The two events exclude each other (R34). -/
theorem State.sample_fire_zeroRelease (s : State) (op : RawOp) :
    ¬ ((s.sample op).wires.fire = true ∧ (s.sample op).wires.zeroRelease = true) := by
  rw [State.sample_fire, State.sample_zeroRelease]
  cases op <;> simp

/-- A run of samples in RUN is the fold of `sample`. -/
theorem execAll_rawOps (ops : List RawOp) (s : State) (ha : s.admissible = true) (hm : s.mode = .run) :
    execAll (ops.map RawOp.instr) s = .next (ops.foldl State.sample s) := by
  induction ops generalizing s with
  | nil => rfl
  | cons op ops ih =>
    simp only [List.map_cons, execAll, exec_rawOp s op ha hm, List.foldl_cons]
    exact ih _ (State.sample_admissible _ _ ha) (by simpa using hm)

/-! ### The RUN iteration -/

theorem State.sampled_params (s : State) : s.sampled.params = s.params := by simp [State.sampled]

theorem State.sampled_mode (s : State) : s.sampled.mode = s.mode := by simp [State.sampled]

theorem State.sampled_activity (s : State) :
    s.sampled.activity = if s.sampled.wires.fire then 0 else s.activity := by
  rw [State.sampled, State.sample_activity, State.beginIteration_activity]

/-- What SELECT sees (R92). -/
theorem State.sampled_powerState (s : State) :
    s.sampled.powerState = Machine.powerState s.params (if s.sampled.wires.fire then 0 else s.activity) := by
  rw [State.powerState, State.sampled_params, State.sampled_activity]

theorem State.sampled_admissible (s : State) (h : s.admissible = true) : s.sampled.admissible = true :=
  State.sample_admissible _ _ (s.beginIteration_admissible h)

/-- The outputs of an iteration, whichever way it ends. -/
theorem State.iteration_outputs (s : State) :
    s.iteration.count = s.sampled.count ∧ s.iteration.wires.fire = s.sampled.wires.fire ∧
      s.iteration.wires.zeroRelease = s.sampled.wires.zeroRelease ∧
      s.iteration.wires.color = some (colorOf s.sampled.count) ∧
      s.iteration.wires.power = some s.sampled.powerState := by
  by_cases h : s.sampled.wires.zeroRelease = true ∨ s.sampled.powerState = .off
  · rw [s.iteration_off h]; simp
  · rw [s.iteration_render h, State.render_eq _ _ fun e => h (.inr e)]
    simp [State.renderDigits_eq]

/-- The state an Off entry leaves (R126). -/
theorem State.iteration_off_fields (s : State)
    (h : s.sampled.wires.zeroRelease = true ∨ s.sampled.powerState = .off) :
    s.iteration.mode = .sleep ∧ s.iteration.activity = 0 ∧ s.iteration.wires.slots = [⟨0, 0, 0⟩] ∧
      s.iteration.seg = 0 ∧ s.iteration.sel = 0 ∧ s.iteration.wakeEn = true ∧ s.iteration.wakeRef = s.ports.lines ∧
      s.iteration.countdown = s.sampled.countdown ∧ s.iteration.pendingRelease = s.sampled.pendingRelease ∧
      s.iteration.lastSample = s.sampled.lastSample ∧ s.iteration.params = s.params := by
  rw [s.iteration_off h]
  simp [State.sampled, Wires.quiet]

/-- The state a rendered iteration leaves (R112, R114, R150). -/
theorem State.iteration_render_fields (s : State)
    (h : ¬ (s.sampled.wires.zeroRelease = true ∨ s.sampled.powerState = .off)) :
    s.iteration.mode = s.mode ∧
      s.iteration.activity = (if s.sampled.wires.fire then s.sampled.activity else s.sampled.activity + 1) ∧
      s.iteration.wires.slots =
        [⟨segRom s.params (unitsDigit s.sampled.count), selv .units (colorOf s.sampled.count), s.params.tDigit⟩,
          ⟨0, 0, if s.sampled.powerState = .dimmed then s.params.tGap + s.params.tDim else s.params.tGap⟩,
          if 10 ≤ s.sampled.count.toNat then
            ⟨segRom s.params (tensDigit s.sampled.count), selv .tens (colorOf s.sampled.count), s.params.tDigit⟩
          else ⟨0, 0, s.params.tDigit⟩,
          ⟨0, 0, if s.sampled.powerState = .dimmed then s.params.tGap + s.params.tDim + s.params.tLoop
            else s.params.tGap + s.params.tLoop⟩] ∧
      s.iteration.seg = 0 ∧ s.iteration.sel = 0 ∧ s.iteration.wakeEn = s.wakeEn ∧ s.iteration.wakeRef = s.wakeRef ∧
      s.iteration.countdown = s.sampled.countdown ∧ s.iteration.pendingRelease = s.sampled.pendingRelease ∧
      s.iteration.lastSample = s.sampled.lastSample ∧ s.iteration.params = s.params := by
  rw [s.iteration_render h, State.render_eq _ _ fun e => h (.inr e)]
  simp [State.renderDigits_eq, State.sampled, Wires.quiet]

/-! ### SLEEP and SETTLE -/

/-- The step of SLEEP as one record (R127, R128, R130). -/
theorem State.sleepStep_eq (s : State) :
    s.sleepStep = { s.takePorts with
      wires := Wires.quiet
      wakeRef := s.ports.lines
      wakeEn := if s.wakeEn && fallingEdge s.wakeRef s.ports.lines then false else s.wakeEn
      mode := if s.wakeEn && fallingEdge s.wakeRef s.ports.lines then .settle else s.mode } := by
  have hb : s.clearWires.takePorts = { s.takePorts with wires := Wires.quiet } := s.beginIteration_eq
  rcases h : s.wakeEn && fallingEdge s.wakeRef s.ports.lines <;>
    simp [State.sleepStep, hb, State.examineLines, State.wake, h]

/-- The step of SETTLE as one record (R131, R132). -/
theorem State.settleStep_eq (s : State) :
    s.settleStep = { s with mode := .run, wires := { Wires.quiet with delay := some s.params.tSettle } } := rfl

/-! ### The invariant admits every operation -/

theorem Inv.admissible {s : State} (h : Inv s) : s.admissible = true :=
  s.admissible_iff.mpr ⟨h.params, h.count, h.select⟩

end Sys2Proof.Machine
end

