-- ==== Sys2Proof/Laws/PerInstr.lean ====
section
/-! SUPPORT. The family of lemmas per instruction: its word is well formed and decodes to it. -/

namespace Sys2Proof.Laws.EncodingRoundTrip

/-- The word the encoder writes is one the encodings allow, and the decoder reads the instruction back. -/
def Statement (i : Instr) : Prop := (encode i).wellFormed = true ∧ decode (encode i) = .ok i

theorem idle : Statement .idle := ⟨rfl, rfl⟩

theorem down : Statement .down := ⟨rfl, rfl⟩

theorem up : Statement .up := ⟨rfl, rfl⟩

theorem both : Statement .both := ⟨rfl, rfl⟩

theorem renderNormal : Statement .renderNormal := ⟨rfl, rfl⟩

theorem renderDimmed : Statement .renderDimmed := ⟨rfl, rfl⟩

theorem renderOff : Statement .renderOff := ⟨rfl, rfl⟩

theorem modeRun : Statement .modeRun := ⟨rfl, rfl⟩

theorem modeSleep : Statement .modeSleep := ⟨rfl, rfl⟩

theorem modeSettle : Statement .modeSettle := ⟨rfl, rfl⟩

theorem seg0 : Statement .seg0 := ⟨rfl, rfl⟩

theorem seg1 : Statement .seg1 := ⟨rfl, rfl⟩

theorem seg2 : Statement .seg2 := ⟨rfl, rfl⟩

theorem seg3 : Statement .seg3 := ⟨rfl, rfl⟩

theorem seg4 : Statement .seg4 := ⟨rfl, rfl⟩

theorem seg5 : Statement .seg5 := ⟨rfl, rfl⟩

theorem seg6 : Statement .seg6 := ⟨rfl, rfl⟩

theorem seg7 : Statement .seg7 := ⟨rfl, rfl⟩

theorem seg8 : Statement .seg8 := ⟨rfl, rfl⟩

theorem seg9 : Statement .seg9 := ⟨rfl, rfl⟩

end Sys2Proof.Laws.EncodingRoundTrip
end

