-- ==== Sys2Proof/Tests/Slice0.lean ====
section
/-! SUPPORT. The model's own tests: words from the encodings of 30_encoding.md, rows of 95_test_vectors.md, the smoke tests
of the checks, and for every obligation with hypotheses a state that meets them. -/

namespace Sys2Proof.Tests

open Sys2Proof.Machine

/-! ## Decoding: the word of every row, written from R57, R61, R62 and R65 -/

theorem test_decode_IDLE : decode ⟨.raw2, 0b11⟩ = .ok .idle := by decide

theorem test_decode_DOWN : decode ⟨.raw2, 0b10⟩ = .ok .down := by decide

theorem test_decode_UP : decode ⟨.raw2, 0b01⟩ = .ok .up := by decide

theorem test_decode_BOTH : decode ⟨.raw2, 0b00⟩ = .ok .both := by decide

theorem test_decode_RENDER_NORMAL : decode ⟨.ps2, 0b00⟩ = .ok .renderNormal := by decide

theorem test_decode_RENDER_DIMMED : decode ⟨.ps2, 0b01⟩ = .ok .renderDimmed := by decide

theorem test_decode_RENDER_OFF : decode ⟨.ps2, 0b10⟩ = .ok .renderOff := by decide

theorem test_decode_MODE_RUN : decode ⟨.mode2, 0b00⟩ = .ok .modeRun := by decide

theorem test_decode_MODE_SLEEP : decode ⟨.mode2, 0b01⟩ = .ok .modeSleep := by decide

theorem test_decode_MODE_SETTLE : decode ⟨.mode2, 0b10⟩ = .ok .modeSettle := by decide

theorem test_decode_SEG_0 : decode ⟨.digit4, 0b0000⟩ = .ok .seg0 := by decide

theorem test_decode_SEG_1 : decode ⟨.digit4, 0b0001⟩ = .ok .seg1 := by decide

theorem test_decode_SEG_2 : decode ⟨.digit4, 0b0010⟩ = .ok .seg2 := by decide

theorem test_decode_SEG_3 : decode ⟨.digit4, 0b0011⟩ = .ok .seg3 := by decide

theorem test_decode_SEG_4 : decode ⟨.digit4, 0b0100⟩ = .ok .seg4 := by decide

theorem test_decode_SEG_5 : decode ⟨.digit4, 0b0101⟩ = .ok .seg5 := by decide

theorem test_decode_SEG_6 : decode ⟨.digit4, 0b0110⟩ = .ok .seg6 := by decide

theorem test_decode_SEG_7 : decode ⟨.digit4, 0b0111⟩ = .ok .seg7 := by decide

theorem test_decode_SEG_8 : decode ⟨.digit4, 0b1000⟩ = .ok .seg8 := by decide

theorem test_decode_SEG_9 : decode ⟨.digit4, 0b1001⟩ = .ok .seg9 := by decide

/-! ## The checks refuse ill-formed terms -/

theorem test_fits_refuses_a_wide_word : InputWord.fits ⟨.raw2, 4⟩ = false ∧ InputWord.fits ⟨.digit4, 16⟩ = false := by decide

theorem test_defined_refuses_unreachable_words :
    InputWord.defined ⟨.mode2, 3⟩ = false ∧ InputWord.defined ⟨.ps2, 3⟩ = false ∧ InputWord.defined ⟨.digit4, 10⟩ = false := by
  decide

theorem test_decode_rejects_by_name :
    decode ⟨.raw2, 4⟩ = .error .tooWide ∧ decode ⟨.ps2, 3⟩ = .error .unreachablePowerState ∧
      decode ⟨.mode2, 3⟩ = .error .unreachableMode ∧ decode ⟨.digit4, 10⟩ = .error .digitOutOfRange ∧
      decode ⟨.digit4, 15⟩ = .error .digitOutOfRange ∧ decode ⟨.digit4, 16⟩ = .error .tooWide := by
  decide

theorem test_debounceLegal_refuses_zero : Params.debounceLegal { nominal with debounceCount := 0 } = false := by decide

theorem test_thresholdsLegal_refuses_unordered :
    Params.thresholdsLegal { nominal with dimThreshold := 300000 } = false ∧
      Params.thresholdsLegal { nominal with dimThreshold := 0 } = false := by
  decide

theorem test_durationsLegal_refuses_negative : Params.durationsLegal { nominal with tGap := -1 } = false := by
  decide +kernel

theorem test_nominal_is_legal : nominal.legal = true := by decide

theorem test_nominal_widths : nominal.countdownWidth = 8 ∧ nominal.activityWidth = 19 := by
  constructor <;> simp [Params.countdownWidth, Params.activityWidth, nominal] <;> decide +kernel

/-! ## The parameter records and states of 95_test_vectors.md -/

/-- Record S1. -/
def recordS1 : Params := { nominal with debounceCount := 3, dimThreshold := 1000, shutoffThreshold := 2000 }

/-- Record S2. -/
def recordS2 : Params := { nominal with debounceCount := 3, dimThreshold := 5, shutoffThreshold := 8 }

/-- A state in the notation of 95_test_vectors.md. -/
def stateOf (p : Params) (count countdown : Nat) (last : Levels) (pending : Bool) (activity : Nat) (mode : Mode)
    (stimuli : List Ports) : State :=
  { State.reset with
    count := BitVec.ofNat 7 count
    countdown := countdown
    lastSample := last
    pendingRelease := pending
    activity := activity
    mode := mode
    wakeEn := mode == .sleep
    stimuli := stimuli
    params := p }

/-- The operation answers a next state, and `p` holds of it. -/
def answers (r : Result) (p : State → Bool) : Bool :=
  match r with
  | .next t => p t
  | _ => false

/-- The fields of a row of section V-A: count, countdown, lastSample, pendingRelease, activity and the two events. -/
def sampleRow (t : State) : Nat × Nat × Levels × Bool × Nat × Bool × Bool :=
  (t.count.toNat, t.countdown, t.lastSample, t.pendingRelease, t.activity, t.wires.fire, t.wires.zeroRelease)

/-- A vector of section V-A: record S1, `activity` 7 before. -/
def vector (i : Instr) (count countdown : Nat) (last : Levels) (pending : Bool)
    (after : Nat × Nat × Levels × Bool × Nat × Bool × Bool) : Bool :=
  answers (exec i (stateOf recordS1 count countdown last pending 7 .run [])) fun t => sampleRow t == after

/-! ## debounce_counter_fsm (section V-A) -/

/-- V1b. -/
theorem test_idle_reloads : vector .idle 5 1 0b01 false (5, 3, 0b01, false, 7, false, false) = true := by decide

/-- V1d. -/
theorem test_idle_zero_release : vector .idle 0 3 0b10 true (0, 3, 0b10, false, 7, false, true) = true := by decide

/-- V4d. -/
theorem test_down_fires : vector .down 2 1 0b10 false (1, 3, 0b10, true, 0, true, false) = true := by decide

/-- V4b. -/
theorem test_down_floor : vector .down 0 1 0b10 false (0, 3, 0b10, true, 0, true, false) = true := by decide

/-- V2b. -/
theorem test_up_matches : vector .up 5 3 0b01 false (5, 2, 0b01, false, 7, false, false) = true := by decide

/-- V3b. -/
theorem test_up_ceiling : vector .up 99 1 0b01 false (99, 3, 0b01, true, 0, true, false) = true := by decide

/-- V7. -/
theorem test_both_fires : vector .both 5 1 0b00 false (5, 3, 0b00, true, 0, true, false) = true := by decide

/-- V5b. -/
theorem test_both_mismatch : vector .both 5 1 0b01 false (5, 3, 0b00, false, 7, false, false) = true := by decide

/-! ## multiplexed_7seg_driver (section V-D) -/

/-- A render of `count` with the nominal record answers exactly these slots and leaves the outputs blank. -/
def renders (i : Instr) (count : Nat) (slots : List Slot) : Bool :=
  answers (exec i (stateOf nominal count 200 0b11 false 0 .run [])) fun t =>
    t.wires.slots == slots && t.seg == 0 && t.sel == 0

/-- V43. -/
theorem test_render_normal_42 : renders .renderNormal 42
    [⟨0x5B, 0b0001, 50⟩, ⟨0x00, 0b0000, 0⟩, ⟨0x66, 0b0010, 50⟩, ⟨0x00, 0b0000, 0⟩] = true := by decide +kernel

/-- V41. -/
theorem test_render_normal_1 : renders .renderNormal 1
    [⟨0x06, 0b0100, 50⟩, ⟨0x00, 0b0000, 0⟩, ⟨0x00, 0b0000, 50⟩, ⟨0x00, 0b0000, 0⟩] = true := by decide +kernel

/-- V47. -/
theorem test_render_dimmed_58 : renders .renderDimmed 58
    [⟨0x7F, 0b0001, 50⟩, ⟨0x00, 0b0000, 200⟩, ⟨0x6D, 0b0010, 50⟩, ⟨0x00, 0b0000, 200⟩] = true := by decide +kernel

/-- V46. -/
theorem test_render_dimmed_1 : renders .renderDimmed 1
    [⟨0x06, 0b0100, 50⟩, ⟨0x00, 0b0000, 200⟩, ⟨0x00, 0b0000, 50⟩, ⟨0x00, 0b0000, 200⟩] = true := by decide +kernel

/-- V48. -/
theorem test_render_off : renders .renderOff 77 [⟨0x00, 0b0000, 0⟩] = true := by decide +kernel

/-- R126: the levels on the lines become the wake reference. -/
theorem test_render_off_sleeps :
    answers (exec .renderOff { stateOf recordS2 4 3 0b01 true 8 .run [] with lines := 0b01 })
      (fun t => t.mode == .sleep && t.wakeEn && t.wakeRef == 0b01 && t.activity == 0 && t.count == 4) = true := by
  decide

/-! ## The sequencer (sections V-C and V-E) -/

/-- V34. -/
theorem test_run_times_out :
    answers (exec .modeRun (stateOf recordS2 4 3 0b01 false 8 .run [⟨false, 0b11⟩]))
      (fun t => t.mode == .sleep && t.activity == 0 && t.wires.power == some .off && t.wakeRef == 0b11) = true := by
  decide

/-- V36: the fire beats the time-out. -/
theorem test_run_fire_beats_time_out :
    answers (exec .modeRun (stateOf recordS2 4 1 0b01 false 8 .run [⟨false, 0b01⟩]))
      (fun t => t.mode == .run && t.activity == 0 && t.wires.power == some .normal && t.count == 5) = true := by
  decide

/-- V50. -/
theorem test_sleep_wakes :
    answers (exec .modeSleep { stateOf recordS2 0 3 0b10 false 0 .sleep [⟨false, 0b10⟩] with wakeRef := 0b11 })
      (fun t => t.mode == .settle && !t.wakeEn && t.count == 0 && t.lastSample == 0b10) = true := by
  decide

/-- V51: a rising edge does not wake. -/
theorem test_sleep_ignores_a_rise :
    answers (exec .modeSleep { stateOf recordS2 4 3 0b01 true 0 .sleep [⟨false, 0b11⟩] with wakeRef := 0b01 })
      (fun t => t.mode == .sleep && t.wakeEn && t.wakeRef == 0b11) = true := by
  decide

/-- V55. -/
theorem test_settle_resumes :
    answers (exec .modeSettle (stateOf recordS2 4 3 0b01 true 0 .settle [⟨false, 0b00⟩]))
      (fun t => t.mode == .run && t.stimuli == [⟨false, 0b00⟩] && t.pendingRelease && t.wires.delay == some 500000) = true := by
  decide

/-! ## The segment lookup with the default table (R108) -/

/-- The lookup of a digit of the default table answers this pattern. -/
def looksUp (i : Instr) (pattern : SegBits) : Bool :=
  answers (exec i State.reset) fun t => t.wires.rom == some pattern

theorem test_seg_0 : looksUp .seg0 0x3F = true := by decide

theorem test_seg_1 : looksUp .seg1 0x06 = true := by decide

theorem test_seg_2 : looksUp .seg2 0x5B = true := by decide

theorem test_seg_3 : looksUp .seg3 0x4F = true := by decide

theorem test_seg_4 : looksUp .seg4 0x66 = true := by decide

theorem test_seg_5 : looksUp .seg5 0x6D = true := by decide

theorem test_seg_6 : looksUp .seg6 0x7D = true := by decide

theorem test_seg_7 : looksUp .seg7 0x07 = true := by decide

theorem test_seg_8 : looksUp .seg8 0x7F = true := by decide

theorem test_seg_9 : looksUp .seg9 0x6F = true := by decide

/-! ## The bare table word, and fetching it (log entries 1 and 3) -/

theorem test_table_words :
    decodeTableWord 8 3 = some .idle ∧ decodeTableWord 8 2 = some .down ∧ decodeTableWord 8 1 = some .up ∧
    decodeTableWord 8 0 = some .both ∧ decodeTableWord 8 7 = some .seg7 ∧ decodeTableWord 16 9 = some .seg9 ∧
    decodeTableWord 8 12 = none := by
  decide

theorem test_fetched_sample_runs :
    answers (step (State.reset.withFetchWord 8 1)) (fun t => t.lastSample == 0b01 && t.activity == 1) = true := by decide

theorem test_fetched_digit_runs :
    answers (step (State.reset.withFetchWord 8 7)) (fun t => t.wires.rom == some 0x07 && t.count == 7) = true := by decide

/-- The decrement that no rule states is a free value: whatever it is, the sample runs and stores itself. -/
theorem test_underflow_still_runs :
    ∃ t, exec .up (stateOf recordS1 5 0 0b01 false 7 .run []) = .next t ∧ t.lastSample = 0b01 :=
  ⟨_, exec_rawOp _ .up (by decide) rfl, rfl⟩

/-! ## Witnesses: the hypotheses of every obligation are met -/

/-- The invariant of a concrete state, clause by clause. -/
theorem invOfClauses (s : State) (h : (s.params.legal && decide (s.count.toNat ≤ 99) && decide (1 ≤ s.countdown) &&
    decide (s.countdown ≤ s.params.debounceCount) && decide (s.pendingRelease = true → s.countdown = s.params.debounceCount) &&
    decide (s.activity ≤ s.params.shutoffThreshold) && decide (s.wakeEn = true ↔ s.mode = .sleep) &&
    decide (s.mode ≠ .run → s.seg = 0 ∧ s.sel = 0) && selLegal s.sel && decide (s.mode ≠ .run → s.activity = 0)) = true) :
    Machine.Inv s := by
  simp only [Bool.and_eq_true, decide_eq_true_eq] at h
  obtain ⟨⟨⟨⟨⟨⟨⟨⟨⟨h1, h2⟩, h3⟩, h4⟩, h5⟩, h6⟩, h7⟩, h8⟩, h9⟩, h10⟩ := h
  exact ⟨h1, h2, ⟨h3, h4⟩, h5, h6, h7, h8, h9, h10⟩

/-- RUN, armed at the last matching sample, an UP sample on the ports. -/
def readyUp (count activity : Nat) : State := stateOf recordS2 count 1 0b01 false activity .run [⟨false, 0b01⟩]

/-- RUN, armed at the last matching sample, a DOWN sample on the ports. -/
def readyDown (count activity : Nat) : State := stateOf recordS2 count 1 0b10 false activity .run [⟨false, 0b10⟩]

/-- RUN, no button pressed. -/
def quietRun (count activity : Nat) (pending : Bool) : State :=
  stateOf recordS2 count 3 0b01 pending activity .run [⟨false, 0b11⟩]

/-- SLEEP with the reference at both high, and these levels on the ports. -/
def sleeping (lv : Levels) : State :=
  { stateOf recordS2 4 3 0b01 true 0 .sleep [⟨false, lv⟩, ⟨false, 0b11⟩] with wakeRef := 0b11 }

/-- SETTLE with a stimulus waiting. -/
def settling : State := stateOf recordS2 4 3 0b01 false 0 .settle [⟨false, 0b01⟩]

theorem step_readyUp (c a : Nat) (h : (readyUp c a).admissible = true) : step (readyUp c a) = .next (readyUp c a).iteration :=
  step_run _ rfl h rfl

theorem step_readyDown (c a : Nat) (h : (readyDown c a).admissible = true) :
    step (readyDown c a) = .next (readyDown c a).iteration :=
  step_run _ rfl h rfl

theorem step_quietRun (c a : Nat) (p : Bool) (h : (quietRun c a p).admissible = true) :
    step (quietRun c a p) = .next (quietRun c a p).iteration :=
  step_run _ rfl h rfl

theorem witness_DecodeAcceptsExactlyTheDefinedWords :
    (2 ^ (InputWord.mk .raw2 4).format.width ≤ 4) ∧ (InputWord.mk .ps2 3).wellFormed = false ∧
      (InputWord.mk .mode2 3).wellFormed = false ∧ (InputWord.mk .digit4 10).wellFormed = false ∧
      (InputWord.mk .digit4 15).wellFormed = false := by
  decide

theorem witness_StepRunsTheDecodedMode :
    ((quietRun 4 0 false).ports.rst = false ∧ decode ⟨.mode2, (quietRun 4 0 false).mode.bits.toNat⟩ = .ok .modeRun) ∧
      ((sleeping 0b10).ports.rst = false ∧ decode ⟨.mode2, (sleeping 0b10).mode.bits.toNat⟩ = .ok .modeSleep) ∧
      (settling.ports.rst = false ∧ decode ⟨.mode2, settling.mode.bits.toNat⟩ = .ok .modeSettle) := by
  decide

/-- Both clauses at the boundary of SHUTOFF_THRESHOLD. -/
theorem witness_RunIterationComposesItsOperations :
    (∃ s : State, s.admissible = true ∧ s.mode = .run ∧ ∃ u, exec (RawOp.ofBits s.ports.lines).instr
      { s.takePorts with wires := Wires.quiet } = .next u ∧ powerState u.params u.activity = .off) ∧
    (∃ s : State, s.admissible = true ∧ s.mode = .run ∧ ∃ u, exec (RawOp.ofBits s.ports.lines).instr
      { s.takePorts with wires := Wires.quiet } = .next u ∧ u.wires.zeroRelease = false ∧
      powerState u.params u.activity = .dimmed) :=
  ⟨⟨quietRun 4 8 false, by decide, rfl, _, exec_rawOp _ .idle (by decide) rfl, by decide⟩,
    ⟨quietRun 4 7 false, by decide, rfl, _, exec_rawOp _ .idle (by decide) rfl, by decide, by decide⟩⟩

theorem witness_IdleSampleResult :
    ((quietRun 4 0 true).admissible = true ∧ (quietRun 4 0 true).mode = .run ∧
      (quietRun 4 0 true).params.idleUpdatesLast = false) ∧
    ((quietRun 0 0 true).admissible = true ∧ (quietRun 0 0 true).mode = .run ∧
      (quietRun 0 0 true).ports = ⟨false, 0b11#2⟩ ∧ (quietRun 0 0 true).count.toNat = 0 ∧
      (quietRun 0 0 true).pendingRelease = true) := by
  decide

theorem witness_IdleStoresItsSampleUnderTheParameter :
    ∃ s : State, s.admissible = true ∧ s.mode = .run ∧ s.params.idleUpdatesLast = true :=
  ⟨stateOf { recordS1 with idleUpdatesLast := true } 5 3 0b01 false 0 .run [], by decide⟩

/-- The three clauses: at `countdown = 1`, a fire at 1 (and so 0 after it), a fire at 2. -/
theorem witness_DownSampleResult :
    ((readyDown 5 0).admissible = true ∧ (readyDown 5 0).mode = .run ∧ 1 ≤ (readyDown 5 0).countdown) ∧
    (∃ s t : State, exec .down s = .next t ∧ s.mode = .run ∧ t.wires.fire = true ∧ s.count.toNat = 1) ∧
    (∃ s t : State, step s = .next t ∧ s.mode = .run ∧ s.ports = ⟨false, 0b10#2⟩ ∧ t.wires.fire = true ∧
      s.count.toNat = 2) :=
  ⟨by decide, ⟨readyDown 1 0, _, exec_rawOp _ .down (by decide) rfl, rfl, by decide, by decide⟩,
    ⟨readyDown 2 0, _, step_readyDown 2 0 (by decide), rfl, rfl, by decide, by decide⟩⟩

/-- The three clauses: at `countdown = 1`, a fire followed by IDLE, a fire at 0. -/
theorem witness_UpSampleResult :
    ((readyUp 99 0).admissible = true ∧ (readyUp 99 0).mode = .run ∧ 1 ≤ (readyUp 99 0).countdown) ∧
    (∃ s t : State, step s = .next t ∧ s.mode = .run ∧ s.ports = ⟨false, 0b01#2⟩ ∧ t.wires.fire = true ∧
      s.count.toNat = 0) :=
  ⟨by decide, ⟨readyUp 0 0, _, step_readyUp 0 0 (by decide), rfl, rfl, by decide, by decide⟩⟩

/-- RUN, armed at the last matching sample of a double press. -/
def readyBoth (count : Nat) : State := stateOf recordS2 count 1 0b00 false 0 .run [⟨false, 0b00⟩]

theorem witness_BothSampleResult :
    ((readyBoth 7).admissible = true ∧ (readyBoth 7).mode = .run ∧ 1 ≤ (readyBoth 7).countdown) ∧
    (∃ s t u : State, exec .both s = .next t ∧ s.mode = .run ∧ t.wires.fire = true ∧ exec .down t = .next u) ∧
    (∃ s t u : State, exec .both s = .next t ∧ s.mode = .run ∧ t.wires.fire = true ∧ exec .up t = .next u) :=
  ⟨by decide,
    ⟨readyBoth 7, _, _, exec_rawOp _ .both (by decide) rfl, rfl, by decide, exec_rawOp _ .down (by decide) rfl⟩,
    ⟨readyBoth 7, _, _, exec_rawOp _ .both (by decide) rfl, rfl, by decide, exec_rawOp _ .up (by decide) rfl⟩⟩

/-- A fire of DOWN that leaves 0, of UP at 0, and of BOTH at 0. -/
theorem witness_IdleAfterAFireTestsTheCount :
    (∃ s t : State, s.mode = .run ∧ exec RawOp.down.instr s = .next t ∧ t.wires.fire = true ∧ t.count.toNat = 0) ∧
    (∃ s t : State, s.mode = .run ∧ exec RawOp.up.instr s = .next t ∧ t.wires.fire = true ∧ s.count.toNat = 0) ∧
    (∃ s t : State, s.mode = .run ∧ exec RawOp.both.instr s = .next t ∧ t.wires.fire = true ∧ s.count.toNat = 0) :=
  ⟨⟨readyDown 1 0, _, rfl, exec_rawOp _ .down (by decide) rfl, by decide, by decide⟩,
    ⟨readyUp 0 0, _, rfl, exec_rawOp _ .up (by decide) rfl, by decide, by decide⟩,
    ⟨readyBoth 0, _, rfl, exec_rawOp _ .both (by decide) rfl, by decide, by decide⟩⟩

theorem witness_NonIdleSampleStoresItself :
    (readyUp 5 0).admissible = true ∧ (readyUp 5 0).mode = .run ∧ RawOp.up ≠ .idle := by decide

/-- A change by one each way. -/
theorem witness_CountChangesOnlyAtAFire :
    (∃ s t : State, Machine.Inv s ∧ step s = .next t ∧ s.ports.rst = false ∧ t.count ≠ s.count ∧ s.nextOp = .up) ∧
    (∃ s t : State, Machine.Inv s ∧ step s = .next t ∧ s.ports.rst = false ∧ t.count ≠ s.count ∧ s.nextOp = .down) :=
  ⟨⟨readyUp 98 0, _, invOfClauses _ (by decide), step_readyUp 98 0 (by decide), rfl, by decide, by decide⟩,
    ⟨readyDown 1 0, _, invOfClauses _ (by decide), step_readyDown 1 0 (by decide), rfl, by decide, by decide⟩⟩

theorem witness_FireExcludesZeroRelease :
    (∃ s t : State, step s = .next t ∧ t.wires.fire = true) ∧ (∃ s t : State, step s = .next t ∧ t.wires.zeroRelease = true) :=
  ⟨⟨readyUp 5 0, _, step_readyUp 5 0 (by decide), by decide⟩, ⟨quietRun 0 0 true, _, step_quietRun 0 0 true (by decide), by decide⟩⟩

/-- Both cases of `lastSample`, at the last sample each allows. -/
theorem witness_PressFiresAtItsNthMatchingSample :
    (∃ (s : State) (op : RawOp) (k : Nat), s.admissible = true ∧ s.mode = .run ∧ op ≠ .idle ∧ s.pendingRelease = false ∧
      s.countdown = s.params.debounceCount ∧ 1 ≤ k ∧ s.lastSample = op.bits ∧ k = s.params.debounceCount) ∧
    (∃ (s : State) (op : RawOp) (k : Nat), s.admissible = true ∧ s.mode = .run ∧ op ≠ .idle ∧ s.pendingRelease = false ∧
      s.countdown = s.params.debounceCount ∧ 1 ≤ k ∧ s.lastSample ≠ op.bits ∧ k = s.params.debounceCount + 1) :=
  ⟨⟨quietRun 5 0 false, .up, 3, by decide⟩, ⟨quietRun 5 0 false, .down, 4, by decide⟩⟩

theorem witness_HeldPressNeverCountsAgain :
    ∃ (s : State) (ops : List RawOp), s.admissible = true ∧ s.mode = .run ∧ s.pendingRelease = true ∧
      (∀ op ∈ ops, op ≠ .idle) ∧ ops ≠ [] :=
  ⟨quietRun 5 0 true, [.up, .down, .both], by decide⟩

/-- Two equal samples, a bounce, two more, with N = 3. -/
theorem witness_BounceIsRejected :
    ∃ (s : State) (ops : List RawOp), s.admissible = true ∧ s.mode = .run ∧ s.countdown = s.params.debounceCount ∧
      (∀ op, op ≠ .idle → ¬ (List.replicate s.params.debounceCount op <:+: ops)) ∧ ops.length = 5 :=
  ⟨quietRun 5 0 false, [.up, .up, .down, .up, .up], by decide, rfl, rfl, by intro op _; cases op <;> decide, rfl⟩

theorem witness_PowerStateByTwoThresholds : recordS2.legal = true := by decide

/-- With a fire at the time-out, and without one. -/
theorem witness_SelectSeesActivityAfterTheSample :
    (∃ s t : State, s.ports.rst = false ∧ s.mode = .run ∧ step s = .next t ∧ t.wires.fire = true ∧ s.activity = 8) ∧
    (∃ s t : State, s.ports.rst = false ∧ s.mode = .run ∧ step s = .next t ∧ t.wires.fire = false) :=
  ⟨⟨readyUp 5 8, _, rfl, rfl, step_readyUp 5 8 (by decide), by decide, rfl⟩,
    ⟨quietRun 5 7 false, _, rfl, rfl, step_quietRun 5 7 false (by decide), by decide⟩⟩

/-- An iteration that ticks, at the last Dimmed one, and one that is the Off entry. -/
theorem witness_ActivityTicksOncePerIteration :
    (∃ s t : State, s.ports.rst = false ∧ s.mode = .run ∧ step s = .next t ∧ t.activity = 8) ∧
    (∃ s t : State, s.ports.rst = false ∧ s.mode = .run ∧ step s = .next t ∧ s.activity = 8 ∧ t.activity = 0) :=
  ⟨⟨quietRun 5 7 false, _, rfl, rfl, step_quietRun 5 7 false (by decide), by decide⟩,
    ⟨quietRun 5 8 false, _, rfl, rfl, step_quietRun 5 8 false (by decide), rfl, by decide⟩⟩

/-- The three causes, and neither cause in RUN and in SLEEP. -/
theorem witness_ActivityClearedByExactlyThreeThings :
    (∃ s t : State, step s = .next t ∧ s.ports.rst = true) ∧ (∃ s t : State, step s = .next t ∧ t.wires.fire = true) ∧
    (∃ s t : State, step s = .next t ∧ s.mode = .run ∧ t.mode = .sleep) ∧
    (∃ s t : State, step s = .next t ∧ s.ports.rst = false ∧ t.wires.fire = false ∧ s.mode = .run ∧ t.mode = .run) ∧
    (∃ s t : State, step s = .next t ∧ s.ports.rst = false ∧ t.wires.fire = false ∧ s.mode = .sleep) :=
  ⟨⟨stateOf recordS2 5 3 0b01 false 4 .run [⟨true, 0b11⟩], _, step_reset _ rfl (by decide), rfl⟩,
    ⟨readyUp 5 3, _, step_readyUp 5 3 (by decide), by decide⟩,
    ⟨quietRun 5 8 false, _, step_quietRun 5 8 false (by decide), rfl, by decide⟩,
    ⟨quietRun 5 7 false, _, step_quietRun 5 7 false (by decide), rfl, by decide, rfl, by decide⟩,
    ⟨sleeping 0b11, _, step_sleep _ rfl (by decide) rfl, rfl, by decide, rfl⟩⟩

/-- Thresholds 1 and 2, so that three quiet iterations reach the Off entry. -/
def shortRun : State :=
  stateOf { recordS1 with dimThreshold := 1, shutoffThreshold := 2 } 5 3 0b01 false 0 .run
    [⟨false, 0b11⟩, ⟨false, 0b11⟩, ⟨false, 0b11⟩]

/-- The run answers a state with `p`, or stops. -/
def afterRun (k : Nat) (s : State) (p : State → Bool) : Bool :=
  match Host.Core.run Sys2Proof.core k s with
  | .next t => p t
  | _ => true

theorem afterRun_next (k : Nat) (s u : State) (p : State → Bool) (h : afterRun k s p = true)
    (hu : Host.Core.run Sys2Proof.core k s = .next u) : p u = true := by
  simpa [afterRun, hu] using h

/-- The last iteration before the Off entry and the Off entry itself. -/
theorem witness_QuietIterationsDimThenShutOff :
    Machine.Inv shortRun ∧ shortRun.mode = .run ∧ shortRun.activity = 0 ∧ 3 = shortRun.params.shutoffThreshold + 1 ∧
      (∀ (j : Nat) (u : State), j < 3 → Host.Core.run Sys2Proof.core j shortRun = .next u → u.ports.rst = false) ∧
      (∀ (j : Nat) (u : State), 1 ≤ j → j ≤ 3 → Host.Core.run Sys2Proof.core j shortRun = .next u →
        u.wires.fire = false ∧ u.wires.zeroRelease = false) := by
  refine ⟨invOfClauses _ (by decide), rfl, rfl, rfl, ?_, ?_⟩
  · intro j u hj hu
    have h : afterRun j shortRun (fun t => t.ports.rst == false) = true := by
      rcases j with _ | _ | _ | j
      · decide +kernel
      · decide +kernel
      · decide +kernel
      · omega
    simpa using afterRun_next _ _ _ _ h hu
  · intro j u h1 hj hu
    have h : afterRun j shortRun (fun t => t.wires.fire == false && t.wires.zeroRelease == false) = true := by
      rcases j with _ | _ | _ | _ | j
      · omega
      · decide +kernel
      · decide +kernel
      · decide +kernel
      · omega
    simpa using afterRun_next _ _ _ _ h hu

theorem witness_ColorIsGreenExactlyAtOne :
    (∃ s t : State, s.ports.rst = false ∧ s.mode = .run ∧ step s = .next t ∧ t.count.toNat = 1) ∧
    (∃ s t : State, s.ports.rst = false ∧ s.mode = .run ∧ step s = .next t ∧ t.count.toNat = 2) :=
  ⟨⟨readyUp 0 0, _, rfl, rfl, step_readyUp 0 0 (by decide), by decide⟩,
    ⟨readyUp 1 0, _, rfl, rfl, step_readyUp 1 0 (by decide), by decide⟩⟩

theorem witness_DigitsAreDecimal : (99#7 : Count).toNat ≤ 99 ∧ (9#7 : Count).toNat ≤ 99 := by decide

/-- Counts 9 and 10, the boundary of the tens digit. -/
theorem witness_RenderNormalEmitsItsFourSlots :
    (∃ (s : State) (u v : Digit), s.admissible = true ∧ s.mode = .run ∧ u.val = s.count.toNat % 10 ∧
      v.val = s.count.toNat / 10 ∧ s.count.toNat = 9) ∧
    (∃ (s : State) (u v : Digit), s.admissible = true ∧ s.mode = .run ∧ u.val = s.count.toNat % 10 ∧
      v.val = s.count.toNat / 10 ∧ s.count.toNat = 10) :=
  ⟨⟨quietRun 9 0 false, 9, 0, by decide⟩, ⟨quietRun 10 0 false, 0, 1, by decide⟩⟩

theorem witness_RenderNormalEmitsItsFourSlots_selected :
    (∃ (s t : State) (u v : Digit), s.ports.rst = false ∧ s.mode = .run ∧ step s = .next t ∧ t.wires.power = some .normal ∧
      t.wires.zeroRelease = false ∧ u.val = t.count.toNat % 10 ∧ v.val = t.count.toNat / 10 ∧ t.count.toNat = 9) ∧
    (∃ (s t : State) (u v : Digit), s.ports.rst = false ∧ s.mode = .run ∧ step s = .next t ∧ t.wires.power = some .normal ∧
      t.wires.zeroRelease = false ∧ u.val = t.count.toNat % 10 ∧ v.val = t.count.toNat / 10 ∧ t.count.toNat = 10) :=
  ⟨⟨quietRun 9 0 false, _, 9, 0, rfl, rfl, step_quietRun 9 0 false (by decide), by decide⟩,
    ⟨quietRun 10 0 false, _, 0, 1, rfl, rfl, step_quietRun 10 0 false (by decide), by decide⟩⟩

theorem witness_RenderDimmedAddsDarkTime :
    (∃ (s : State) (u v : Digit), s.admissible = true ∧ s.mode = .run ∧ u.val = s.count.toNat % 10 ∧
      v.val = s.count.toNat / 10 ∧ s.count.toNat = 1) ∧
    (∃ (s : State) (u v : Digit), s.admissible = true ∧ s.mode = .run ∧ u.val = s.count.toNat % 10 ∧
      v.val = s.count.toNat / 10 ∧ s.count.toNat = 99) :=
  ⟨⟨quietRun 1 5 false, 1, 0, by decide⟩, ⟨quietRun 99 5 false, 9, 9, by decide⟩⟩

theorem witness_RenderOffEntersSleep : (quietRun 4 8 false).admissible = true ∧ (quietRun 4 8 false).mode = .run := by
  decide

theorem witness_SegRomReadsItsRow :
    State.reset.admissible = true ∧ ∃ (i : Instr) (t : State), exec i State.reset = .next t :=
  ⟨by decide, .idle, _, exec_rawOp _ .idle (by decide) rfl⟩

/-- Counts 9 and 10 in Normal. -/
theorem witness_SlotDurationsDependOnPowerStateOnly :
    ∃ s₁ s₂ t₁ t₂ : State, s₁.params = s₂.params ∧ s₁.mode = .run ∧ s₂.mode = .run ∧ s₁.ports.rst = false ∧
      s₂.ports.rst = false ∧ step s₁ = .next t₁ ∧ step s₂ = .next t₂ ∧ t₁.mode = .run ∧ t₂.mode = .run ∧
      t₁.wires.power = t₂.wires.power ∧ s₁.count.toNat = 9 ∧ s₂.count.toNat = 10 :=
  ⟨quietRun 9 0 false, quietRun 10 0 false, _, _, rfl, rfl, rfl, rfl, rfl, step_quietRun 9 0 false (by decide),
    step_quietRun 10 0 false (by decide), by decide, by decide, by decide, by decide, by decide⟩

theorem witness_SlotDurationsDependOnPowerStateOnly_third :
    (∃ s t : State, s.ports.rst = false ∧ s.mode = .run ∧ step s = .next t ∧ t.mode = .run ∧ t.count.toNat = 9) ∧
    (∃ s t : State, s.ports.rst = false ∧ s.mode = .run ∧ step s = .next t ∧ t.mode = .run ∧ t.count.toNat = 10) :=
  ⟨⟨quietRun 9 0 false, _, rfl, rfl, step_quietRun 9 0 false (by decide), by decide⟩,
    ⟨quietRun 10 0 false, _, rfl, rfl, step_quietRun 10 0 false (by decide), by decide⟩⟩

theorem witness_EverySlotIsBlankOrOneDigit : ∃ s t : State, step s = .next t ∧ t.wires.slots.length = 4 :=
  ⟨quietRun 10 0 false, _, step_quietRun 10 0 false (by decide), by decide⟩

/-- The last Normal and the first Dimmed iteration. -/
theorem witness_IterationTimeByPowerState :
    (∃ s t : State, s.ports.rst = false ∧ s.mode = .run ∧ step s = .next t ∧ t.mode = .run ∧
      t.wires.power = some .normal ∧ s.activity = 4) ∧
    (∃ s t : State, s.ports.rst = false ∧ s.mode = .run ∧ step s = .next t ∧ t.mode = .run ∧
      t.wires.power = some .dimmed ∧ s.activity = 5) :=
  ⟨⟨quietRun 9 4 false, _, rfl, rfl, step_quietRun 9 4 false (by decide), by decide, by decide, rfl⟩,
    ⟨quietRun 9 5 false, _, rfl, rfl, step_quietRun 9 5 false (by decide), by decide, by decide, rfl⟩⟩

theorem witness_DisplayIsDarkAfterEveryStep : ∃ s t : State, Machine.Inv s ∧ step s = .next t :=
  ⟨quietRun 9 4 false, _, invOfClauses _ (by decide), step_quietRun 9 4 false (by decide)⟩

/-- Each cause alone, and neither at the last Dimmed iteration. -/
theorem witness_OffEntryExactlyOnItsCauses :
    (∃ s t : State, s.ports.rst = false ∧ s.mode = .run ∧ step s = .next t ∧ t.wires.zeroRelease = true ∧
      t.wires.power = some .normal ∧ t.mode = .sleep) ∧
    (∃ s t : State, s.ports.rst = false ∧ s.mode = .run ∧ step s = .next t ∧ t.wires.zeroRelease = false ∧
      t.wires.power = some .off ∧ t.mode = .sleep) ∧
    (∃ s t : State, s.ports.rst = false ∧ s.mode = .run ∧ step s = .next t ∧ s.activity = 7 ∧ t.mode = .run) :=
  ⟨⟨quietRun 0 0 true, _, rfl, rfl, step_quietRun 0 0 true (by decide), by decide, by decide, by decide⟩,
    ⟨quietRun 5 8 false, _, rfl, rfl, step_quietRun 5 8 false (by decide), by decide, by decide, by decide⟩,
    ⟨quietRun 5 7 false, _, rfl, rfl, step_quietRun 5 7 false (by decide), rfl, by decide⟩⟩

/-- An edge on either line, and none. -/
theorem witness_SleepExaminesTheLines :
    ((sleeping 0b10).admissible = true ∧ (sleeping 0b10).mode = .sleep ∧ (sleeping 0b10).wakeEn = true ∧
      (sleeping 0b10).wakeRef.getLsbD 0 = true ∧ (sleeping 0b10).ports.lines.getLsbD 0 = false) ∧
    ((sleeping 0b01).admissible = true ∧ (sleeping 0b01).mode = .sleep ∧ (sleeping 0b01).wakeEn = true ∧
      (sleeping 0b01).wakeRef.getLsbD 1 = true ∧ (sleeping 0b01).ports.lines.getLsbD 1 = false) ∧
    ((sleeping 0b11).admissible = true ∧ (sleeping 0b11).mode = .sleep ∧
      fallingEdge (sleeping 0b11).wakeRef (sleeping 0b11).ports.lines = false) := by
  decide

theorem witness_SleepIsLeftOnlyByTheWake :
    (Machine.Inv (sleeping 0b10) ∧ (sleeping 0b10).mode = .sleep ∧ (sleeping 0b10).ports.rst = false ∧
      fallingEdge (sleeping 0b10).wakeRef (sleeping 0b10).ports.lines = true) ∧
    (Machine.Inv (sleeping 0b11) ∧ (sleeping 0b11).mode = .sleep ∧ (sleeping 0b11).ports.rst = false ∧
      fallingEdge (sleeping 0b11).wakeRef (sleeping 0b11).ports.lines = false) :=
  ⟨⟨invOfClauses _ (by decide), by decide⟩, ⟨invOfClauses _ (by decide), by decide⟩⟩

theorem witness_SettleReturnsToRun : settling.admissible = true ∧ settling.mode = .settle := by decide

theorem witness_WakeAndSettleKeepTheDebounceState :
    Machine.Inv (sleeping 0b10) ∧ (sleeping 0b10).mode = .sleep ∧
      (sleeping 0b10).stimuli = ⟨false, 0b10⟩ :: ⟨false, 0b11⟩ :: [] ∧ fallingEdge (sleeping 0b10).wakeRef 0b10 = true :=
  ⟨invOfClauses _ (by decide), by decide⟩

theorem witness_WakingLineIsNotRecorded :
    ∃ (s t₁ t₂ : State) (rest : List Ports), s.mode = .sleep ∧ s.wakeEn = true ∧ fallingEdge s.wakeRef 0b10 = true ∧
      fallingEdge s.wakeRef 0b01 = true ∧ step { s with stimuli := ⟨false, 0b10⟩ :: rest } = .next t₁ ∧
      step { s with stimuli := ⟨false, 0b01⟩ :: rest } = .next t₂ :=
  ⟨sleeping 0b11, _, _, [], by decide, by decide, by decide, by decide, step_sleep _ rfl (by decide) rfl,
    step_sleep _ rfl (by decide) rfl⟩

/-- `rst` in each of the three modes. -/
theorem witness_ResetFromAnyMode :
    ∀ m : Mode, (stateOf recordS2 5 3 0b01 true 0 m [⟨true, 0b11⟩]).ports.rst = true ∧
      (stateOf recordS2 5 3 0b01 true 0 m [⟨true, 0b11⟩]).params.legal = true := by
  intro m
  cases m <;> decide

/-- A step of each mode, and a reset. -/
theorem witness_EveryStepKeepsTheInvariant :
    (∃ s t : State, Machine.Inv s ∧ s.mode = .run ∧ step s = .next t) ∧
    (∃ s t : State, Machine.Inv s ∧ s.mode = .sleep ∧ step s = .next t) ∧
    (∃ s t : State, Machine.Inv s ∧ s.mode = .settle ∧ step s = .next t) ∧
    (∃ s t : State, Machine.Inv s ∧ s.ports.rst = true ∧ step s = .next t) :=
  ⟨⟨readyUp 98 8, _, invOfClauses _ (by decide), rfl, step_readyUp 98 8 (by decide)⟩,
    ⟨sleeping 0b10, _, invOfClauses _ (by decide), rfl, step_sleep _ rfl (by decide) rfl⟩,
    ⟨settling, _, invOfClauses _ (by decide), rfl, step_settle _ rfl (by decide) rfl⟩,
    ⟨stateOf recordS2 5 3 0b01 false 4 .run [⟨true, 0b11⟩], _, invOfClauses _ (by decide), rfl, step_reset _ rfl (by decide)⟩⟩

theorem witness_EveryExecutionIsInfiniteAndSafe : Machine.Inv State.reset := invOfClauses _ (by decide)

/-- A state one step from reset. -/
theorem witness_NoOperationFaults :
    ∃ (ps : List Ports) (s : State), Host.Core.run Sys2Proof.core 1 { State.reset with stimuli := ps } = .next s :=
  ⟨[⟨false, 0b01⟩], _, core_run_add_one 0 _ _ rfl |>.trans (step_run _ rfl (by decide) rfl)⟩

/-- Each mode is some other operation's wrong mode. -/
theorem witness_OperationsArePerformedOnlyInTheirMode :
    ((sleeping 0b11).admissible = true ∧ (sleeping 0b11).mode ≠ .run ∧ (sleeping 0b11).mode ≠ .settle) ∧
      ((quietRun 5 0 false).admissible = true ∧ (quietRun 5 0 false).mode ≠ .sleep) := by
  decide

/-- Each refusal at a boundary value of its range, and none. -/
theorem witness_IllegalRecordsAndEncodingsAreRefused :
    (stateOf { recordS1 with debounceCount := 0 } 5 3 0b01 false 0 .run []).params.legal = false ∧
    ((quietRun 100 0 false).params.legal = true ∧ 99 < (quietRun 100 0 false).count.toNat) ∧
    ((quietRun 99 0 false).params.legal = true ∧ (quietRun 99 0 false).count.toNat ≤ 99 ∧
      selLegal { quietRun 99 0 false with sel := 0b0011#4 }.sel = false) ∧
    selLegal (quietRun 99 0 false).sel = true := by
  decide

theorem witness_ParameterRecordIsConstant : ∃ s t : State, step s = .next t :=
  ⟨readyUp 5 0, _, step_readyUp 5 0 (by decide)⟩

theorem witness_PinVariantHasNoEffect :
    ∃ (s t : State) (v : PinVariant), step s = .next t ∧ v ≠ s.params.pinVariant :=
  ⟨readyUp 5 0, _, .variantB, step_readyUp 5 0 (by decide), by decide⟩

theorem witness_DurationsDoNotReachTheRegisters :
    ∃ s t₁ t₂ : State, step s = .next t₁ ∧
      step { s with params := { s.params with tDigit := 1, tDim := 2, tSettle := 3, tGap := 4, tLoop := 5 } } = .next t₂ :=
  ⟨readyUp 5 0, _, _, step_readyUp 5 0 (by decide), step_run _ rfl (by decide) rfl⟩

theorem witness_CountersFitTheirWidths :
    Machine.Inv (quietRun 5 8 false) ∧ (quietRun 5 8 false).params.debounceCount < 2 ^ 2 ∧
      (quietRun 5 8 false).params.shutoffThreshold < 2 ^ 4 :=
  ⟨invOfClauses _ (by decide), by decide⟩

end Sys2Proof.Tests
end

/-! The statements of 40_debounce_counter.md on one sample: IDLE, DOWN, UP and BOTH (R71, R77, R78, R79). -/

namespace Sys2Proof.Machine

/-! ### Operands, bits and events of a sample -/

/-- The floor at 0 (R77), on natural numbers. -/
theorem countDown_eq_ofNat (c : Count) : countDown c = BitVec.ofNat 7 (c.toNat - 1) := by
  have hc := c.isLt
  apply BitVec.eq_of_toNat_eq
  rw [countDown_toNat, BitVec.toNat_ofNat]
  omega

theorem RawOp.ofBits_bits (op : RawOp) : RawOp.ofBits op.bits = op := by
  cases op <;> rfl

/-- `zero_release` of an IDLE sample (R71), on natural numbers. -/
theorem State.idleZeroRelease_eq (s : State) :
    s.idleZeroRelease = decide (s.count.toNat = 0 ∧ s.pendingRelease = true) := by
  have hc : s.count = 0#7 ↔ s.count.toNat = 0 := BitVec.toNat_inj.symm
  rw [Bool.eq_iff_iff, decide_eq_true_iff, ← hc]
  simp [State.idleZeroRelease]

/-! ### What a sample does at a fire, and after one -/

/-- A fire makes the transition of its operation (R57, R76). -/
theorem State.sample_count_of_fire (s : State) (op : RawOp) (hf : (s.sample op).wires.fire = true) :
    (s.sample op).count.toNat = sampleTransition op s.count.toNat := by
  rw [State.sample_fire] at hf
  obtain ⟨hne, hfires⟩ := Bool.and_eq_true_iff.mp hf
  cases op with
  | idle => cases hne
  | down =>
    have hfires : s.firesOn 0b10#2 = true := hfires
    simp [State.sample, State.sampleDown, hfires, countDown_toNat, sampleTransition]
  | up =>
    have hfires : s.firesOn 0b01#2 = true := hfires
    simp [State.sample, State.sampleUp, hfires, countUp_toNat, sampleTransition]
  | both => simp [State.sample, State.sampleBoth, sampleTransition]

/-- The release pending after a non-idle sample: one that was pending, or this sample's fire (R74 to R76). -/
theorem State.sample_pendingRelease (s : State) (op : RawOp) (hop : op ≠ .idle) :
    (s.sample op).pendingRelease = ((s.sample op).wires.fire || s.pendingRelease) := by
  cases op with
  | idle => exact absurd rfl hop
  | down | up | both => simp [State.sample, State.sampleDown, State.sampleUp, State.sampleBoth]

/-- A fire leaves a release pending (R76). -/
theorem State.sample_pendingRelease_of_fire (s : State) (op : RawOp) (hf : (s.sample op).wires.fire = true) :
    (s.sample op).pendingRelease = true := by
  have hop : op ≠ .idle := by
    rintro rfl
    cases hf
  rw [s.sample_pendingRelease op hop, hf, Bool.true_or]

/-- With a release pending no sample matches (R74), so that none is accepted (R76). -/
theorem State.firesOn_of_pending (s : State) (raw : Levels) (hp : s.pendingRelease = true) : s.firesOn raw = false := by
  simp [State.firesOn, State.matching, hp]

/-- With a release pending a non-idle sample does not fire, does not count and leaves the release pending (R75). -/
theorem State.sample_of_pending (s : State) (op : RawOp) (hop : op ≠ .idle) (hp : s.pendingRelease = true) :
    (s.sample op).wires.fire = false ∧ (s.sample op).count = s.count ∧ (s.sample op).pendingRelease = true := by
  have hfire : (s.sample op).wires.fire = false := by
    rw [State.sample_fire, s.firesOn_of_pending _ hp, Bool.and_false]
  refine ⟨hfire, ?_, by rw [s.sample_pendingRelease op hop, hp, Bool.or_true]⟩
  cases op with
  | idle => rfl
  | down | up | both =>
    simp [State.sample, State.sampleDown, State.sampleUp, State.sampleBoth, s.firesOn_of_pending _ hp]

/-! ### The sample's row and the iteration, from their answer -/

/-- A sample's row answers a next state in RUN only from an admissible state, and that state is `sample`'s. -/
theorem exec_rawOp_next {s t : State} {op : RawOp} (hm : s.mode = .run) (h : exec op.instr s = .next t) :
    s.admissible = true ∧ t = s.sample op := by
  have hg : exec op.instr s = s.guarded (State.inMode .run fun u => u.sample op) := by
    cases op <;> rfl
  rw [hg, State.guarded_next_iff, State.inMode_self s _ _ hm] at h
  exact h

/-- The operation that `sample` performs in an iteration is the one its levels select (R57, R70). -/
theorem State.sampled_of_ports (s : State) (op : RawOp) (hp : s.ports = ⟨false, op.bits⟩) :
    s.sampled = s.beginIteration.sample op := by
  rw [State.sampled, State.beginIteration_lines, hp, RawOp.ofBits_bits]

/-- A step without `rst` that answers a next state in RUN performs one iteration, from an admissible state. -/
theorem step_run_next {s t : State} (h : step s = .next t) (hr : s.ports.rst = false) (hm : s.mode = .run) :
    s.admissible = true ∧ t = s.iteration := by
  have ha : s.admissible = true := by
    rcases step_cases h with ⟨hrst, -⟩ | ⟨-, ha, -⟩
    · rw [hr] at hrst
      cases hrst
    · exact ha
  rw [step_run s hr ha hm] at h
  exact ⟨ha, by injection h with h; exact h.symm⟩

/-- An iteration with a fire shows its count after the transition, and the Color of that count (R100, R150). -/
theorem step_fire_count_color {s t : State} {op : RawOp} (h : step s = .next t) (hm : s.mode = .run)
    (hp : s.ports = ⟨false, op.bits⟩) (hf : t.wires.fire = true) :
    t.count.toNat = sampleTransition op s.count.toNat ∧ t.wires.color = some (colorOf t.count) := by
  obtain ⟨-, rfl⟩ := step_run_next h (by rw [hp]) hm
  obtain ⟨hcount, hfire, -, hcolor, -⟩ := s.iteration_outputs
  rw [hfire, s.sampled_of_ports op hp] at hf
  have htransition := State.sample_count_of_fire _ op hf
  rw [State.beginIteration_count, ← s.sampled_of_ports op hp] at htransition
  rw [hcount]
  exact ⟨htransition, hcolor⟩

/-- A fire that makes the count 1 makes the Color Green in the same iteration (R77 (c), R78 (b), R100). -/
theorem step_fire_green {s t : State} {op : RawOp} (h : step s = .next t) (hm : s.mode = .run)
    (hp : s.ports = ⟨false, op.bits⟩) (hf : t.wires.fire = true) (hone : sampleTransition op s.count.toNat = 1) :
    t.count.toNat = 1 ∧ t.wires.color = some .green := by
  obtain ⟨hcount, hcolor⟩ := step_fire_count_color h hm hp hf
  rw [hone] at hcount
  exact ⟨hcount, by rw [hcolor, (colorOf_green_iff t.count).mpr hcount]⟩

/-- IDLE after a fire that left 0 raises `zero_release` (R71, R76). -/
theorem exec_idle_after_fire_at_zero {s t : State} {op : RawOp} (h : exec op.instr s = .next t) (hm : s.mode = .run)
    (hf : t.wires.fire = true) (hzero : sampleTransition op s.count.toNat = 0) :
    ∃ u, exec .idle t = .next u ∧ u.wires.zeroRelease = true := by
  obtain ⟨ha, rfl⟩ := exec_rawOp_next hm h
  refine ⟨_, exec_rawOp _ .idle (s.sample_admissible op ha) (by rw [State.sample_mode, hm]), ?_⟩
  rw [State.sample_zeroRelease, State.idleZeroRelease_eq, s.sample_count_of_fire op hf, hzero,
    s.sample_pendingRelease_of_fire op hf]
  rfl

/-! ### The four operations -/

/-- Settles O6: the effect of IDLE field by field, and the Off entry that its `zero_release` causes. -/
theorem idleSampleResult : Obligations.IdleSampleResult := by
  refine ⟨fun s ha hm hdefault => ?_, fun s ha hm hp hzero hpending => ?_⟩
  · rw [show Instr.idle = RawOp.idle.instr from rfl, exec_rawOp s .idle ha hm]
    simp [State.sample, State.sampleIdle, hdefault, State.idleZeroRelease_eq]
  · have hrelease : s.sampled.wires.zeroRelease = true := by
      rw [s.sampled_of_ports .idle hp, State.sample_zeroRelease, State.idleZeroRelease_eq,
        State.beginIteration_count, State.beginIteration_pendingRelease, hzero, hpending]
      rfl
    obtain ⟨-, -, hshown, -, -⟩ := s.iteration_outputs
    obtain ⟨hsleep, -⟩ := s.iteration_off_fields (.inl hrelease)
    exact ⟨_, step_run s (by rw [hp]) ha hm, hshown.trans hrelease, hsleep⟩

/-- Settles O8: the non-idle branch with the decrement; the corner cases are a fire that leaves 0 and one at 2. -/
theorem downSampleResult : Obligations.DownSampleResult := by
  refine ⟨fun s ha hm hc => ?_, fun s t h hm hf hle => ?_, fun s t h hm hp hf htwo => ?_⟩
  · rw [show Instr.down = RawOp.down.instr from rfl, exec_rawOp s .down ha hm, ← countDown_eq_ofNat]
    exact congrArg _ (s.samplePress_eq_of_pos _ _ hc)
  · have hzero : sampleTransition .down s.count.toNat = 0 := Nat.sub_eq_zero_of_le hle
    exact exec_idle_after_fire_at_zero (op := .down) h hm hf hzero
  · exact step_fire_green (op := .down) h hm hp hf (by rw [htwo]; rfl)

/-- Settles O9: the non-idle branch with the increment; the corner case is the fire at 0. -/
theorem upSampleResult : Obligations.UpSampleResult := by
  refine ⟨fun s ha hm hc => ?_, fun s t h hm hp hf hzero => ?_⟩
  · rw [show Instr.up = RawOp.up.instr from rfl, exec_rawOp s .up ha hm]
    exact congrArg _ (s.samplePress_eq_of_pos _ _ hc)
  · exact step_fire_green (op := .up) h hm hp hf (by rw [hzero]; rfl)

/-- Settles O10: the non-idle branch with the empty transition, whose count is the count before on either branch; after
its fire the release is pending, and so a DOWN or UP sample does nothing but store itself and reload. -/
theorem bothSampleResult : Obligations.BothSampleResult := by
  refine ⟨fun s ha hm hc => ?_, fun s t u h hm hf hnext => ?_⟩
  · rw [show Instr.both = RawOp.both.instr from rfl, exec_rawOp s .both ha hm]
    have heffect := s.samplePress_eq_of_pos 0b00#2 id hc
    simp only [id_eq, ite_self] at heffect
    exact congrArg _ heffect
  · obtain ⟨-, rfl⟩ := exec_rawOp_next (op := .both) hm h
    have hpending := s.sample_pendingRelease_of_fire .both hf
    have hrun : (s.sample .both).mode = .run := by rw [State.sample_mode, hm]
    rcases hnext with hdown | hup
    · obtain ⟨-, rfl⟩ := exec_rawOp_next (op := .down) hrun hdown
      exact State.sample_of_pending _ _ (by decide) hpending
    · obtain ⟨-, rfl⟩ := exec_rawOp_next (op := .up) hrun hup
      exact State.sample_of_pending _ _ (by decide) hpending

end Sys2Proof.Machine

namespace Sys2Proof.Machine

/-! The PowerState function (R91) at and next to its thresholds. A legal record has `0 < dimThreshold <
shutoffThreshold`, so each of the three states has a value of `activity` that selects it. -/

theorem powerState_corners_of_legal {p : Params} (hp : p.legal = true) :
    powerState p 0 = .normal ∧ powerState p (p.dimThreshold - 1) = .normal ∧ powerState p p.dimThreshold = .dimmed ∧
    powerState p (p.shutoffThreshold - 1) = .dimmed ∧ powerState p p.shutoffThreshold = .off := by
  obtain ⟨-, ⟨hpos, hlt⟩, -⟩ := (Params.legal_iff p).mp hp
  refine ⟨(powerState_normal_iff p _).mpr ?zero, (powerState_normal_iff p _).mpr ?lastNormal,
    (powerState_dimmed_iff p _).mpr ⟨le_rfl, hlt⟩, (powerState_dimmed_iff p _).mpr ?lastDimmed,
    (powerState_off_iff p _).mpr le_rfl⟩
  case zero => exact ⟨hpos, hpos.trans hlt⟩
  case lastNormal => omega
  case lastDimmed => omega

/-- Settles O18: one comparison per PowerState, and the corner cases of a legal record, of which the nominal one is an
instance; 150000 lies strictly between its thresholds. -/
theorem powerStateByTwoThresholds : Obligations.PowerStateByTwoThresholds := by
  refine ⟨fun p a => ⟨powerState_off_iff p a, powerState_dimmed_iff p a, powerState_normal_iff p a⟩,
    fun _ => powerState_corners_of_legal, ?nominal⟩
  have hlegal : nominal.legal = true := by decide
  obtain ⟨hzero, hlastNormal, hdim, hlastDimmed, hoff⟩ := powerState_corners_of_legal hlegal
  have hbetween : powerState nominal 150000 = .dimmed :=
    (powerState_dimmed_iff nominal 150000).mpr (by decide)
  exact ⟨hzero, hlastNormal, hdim, hbetween, hlastDimmed, hoff⟩

end Sys2Proof.Machine

/-! The statements of 42_display_renderer.md: the Color (R100), the slot durations (R104) and the digit split (R102). -/

namespace Sys2Proof.Machine

/-! ### The Color and the select lines -/

/-- Color as a comparison of the count with 1 (R100), on natural numbers. -/
theorem colorOf_eq (c : Count) : colorOf c = if c.toNat = 1 then .green else .red := by
  by_cases hone : c.toNat = 1
  · rw [if_pos hone, (colorOf_green_iff c).mpr hone]
  · rw [if_neg hone]
    cases hcolor : colorOf c with
    | red => rfl
    | green => exact absurd ((colorOf_green_iff c).mp hcolor) hone

/-- A lit slot selects a digit, whichever its position and Color (R106). -/
theorem selv_ne_zero (p : Position) (c : Color) : selv p c ≠ 0 := by
  cases p <;> cases c <;> decide

/-! ### The rendered iteration -/

/-- The durations of the four slots of a Normal or Dimmed render (R104, R112, R114). -/
def slotDurations (p : Params) (ps : PowerState) : List Micros :=
  [p.tDigit, if ps = .dimmed then p.tGap + p.tDim else p.tGap, p.tDigit,
    if ps = .dimmed then p.tGap + p.tDim + p.tLoop else p.tGap + p.tLoop]

/-- The third slot of a render (R103, R104). -/
def thirdSlot (p : Params) (c : Count) : Slot :=
  if 10 ≤ c.toNat then ⟨segRom p (tensDigit c), selv .tens (colorOf c), p.tDigit⟩ else ⟨0, 0, p.tDigit⟩

theorem thirdSlot_dur (p : Params) (c : Count) : (thirdSlot p c).dur = p.tDigit := by
  unfold thirdSlot
  split <;> rfl

theorem thirdSlot_isBlank_iff (p : Params) (c : Count) : (thirdSlot p c).isBlank ↔ c.toNat < 10 := by
  unfold thirdSlot
  split
  case isTrue hten => exact iff_of_false (fun hblank => selv_ne_zero _ _ hblank.2) (Nat.not_lt.mpr hten)
  case isFalse hten => exact iff_of_true ⟨rfl, rfl⟩ (Nat.not_le.mp hten)

/-- An iteration that ends in RUN had no cause of the Off entry, which ends in SLEEP (R125, R126). -/
theorem State.not_off_of_iteration_mode_run {s : State} (hrun : s.iteration.mode = .run) :
    ¬ (s.sampled.wires.zeroRelease = true ∨ s.sampled.powerState = .off) := by
  intro hoff
  obtain ⟨hsleep, -⟩ := s.iteration_off_fields hoff
  rw [hrun] at hsleep
  cases hsleep

/-- A RUN step that ends in RUN renders: its slots last as its PowerState says, and the third one is the tens slot of the
count it leaves. -/
theorem step_run_render_slots {s t : State} (h : step s = .next t) (hr : s.ports.rst = false) (hm : s.mode = .run)
    (hrun : t.mode = .run) :
    ∃ ps, t.wires.power = some ps ∧ t.wires.slots.map Slot.dur = slotDurations s.params ps ∧
      t.wires.slots[2]? = some (thirdSlot s.params t.count) := by
  obtain ⟨-, rfl⟩ := step_run_next h hr hm
  obtain ⟨hcount, -, -, -, hpower⟩ := s.iteration_outputs
  obtain ⟨-, -, hslots, -⟩ := s.iteration_render_fields (State.not_off_of_iteration_mode_run hrun)
  rw [← thirdSlot] at hslots
  rw [hslots, hcount]
  exact ⟨_, hpower, by simp only [List.map_cons, List.map_nil, thirdSlot_dur, slotDurations], rfl⟩

/-! ### The three statements -/

/-- Settles O23: an iteration shows the Color of the count it leaves; the corner cases differ from 1 in a bit other than
the low one. -/
theorem colorIsGreenExactlyAtOne : Obligations.ColorIsGreenExactlyAtOne := by
  refine ⟨fun s t hr hm h => ?wire, fun c => ?allBits, by decide⟩
  case wire =>
    obtain ⟨-, rfl⟩ := step_run_next h hr hm
    obtain ⟨hcount, -, -, hcolor, -⟩ := s.iteration_outputs
    rw [hcolor, hcount, colorOf_eq]
  case allBits => exact (colorOf_green_iff c).trans (BitVec.toNat_inj (y := 1#7))

/-- Settles O30: both lists are the durations of one PowerState under one record. -/
theorem slotDurationsDependOnPowerStateOnly : Obligations.SlotDurationsDependOnPowerStateOnly := by
  refine ⟨fun s₁ s₂ t₁ t₂ hparams hm₁ hm₂ hr₁ hr₂ h₁ h₂ hrun₁ hrun₂ hpower => ?same, fun s t hr hm h hrun => ?third⟩
  case same =>
    obtain ⟨ps₁, hps₁, hdur₁, -⟩ := step_run_render_slots h₁ hr₁ hm₁ hrun₁
    obtain ⟨ps₂, hps₂, hdur₂, -⟩ := step_run_render_slots h₂ hr₂ hm₂ hrun₂
    have hps : ps₁ = ps₂ := Option.some.inj (by rw [← hps₁, ← hps₂, hpower])
    rw [hdur₁, hdur₂, hparams, hps]
  case third =>
    obtain ⟨-, -, -, hthird⟩ := step_run_render_slots h hr hm hrun
    exact ⟨_, hthird, thirdSlot_dur _ _, thirdSlot_isBlank_iff _ _⟩

/-- Settles O24: the digits are the remainder and the quotient by 10, and a number is made of these. -/
theorem digitsAreDecimal : Obligations.DigitsAreDecimal := by
  intro c hc
  have hunits := unitsDigit_val c
  have htens := tensDigit_val c hc
  refine ⟨hunits, htens, ?leadingZero, ?together⟩
  case leadingZero => rw [htens, Nat.le_div_iff_mul_le (by decide), Nat.one_mul]
  case together => rw [hunits, htens, Nat.div_add_mod]

end Sys2Proof.Machine

/-! The encodings of 30_encoding.md: each format's decoder against its encoder, then every word. -/

namespace Sys2Proof

/-! ### Each format's decoder inverts its encoder -/

theorem RawOp.bits_ofBits (raw : Levels) : (RawOp.ofBits raw).bits = raw := by
  revert raw
  decide

theorem RawOp.encode_instr (op : RawOp) : encode op.instr = ⟨.raw2, op.bits.toNat⟩ := by
  cases op <;> rfl

theorem PowerState.encode_instr (ps : PowerState) : encode ps.instr = ⟨.ps2, ps.bits.toNat⟩ := by
  cases ps <;> rfl

theorem Mode.encode_instr (m : Mode) : encode m.instr = ⟨.mode2, m.bits.toNat⟩ := by
  cases m <;> rfl

theorem encode_digitInstr (d : Digit) : encode (digitInstr d) = ⟨.digit4, d.val⟩ := by
  revert d
  decide

/-- The PS2 decoder inverts `PowerState.bits` (R62). -/
theorem PowerState.bits_of_ofBits {v : Nat} {ps : PowerState} (h : PowerState.ofBits v = .ok ps) :
    ps.bits.toNat = v := by
  unfold PowerState.ofBits at h
  split at h <;> cases h <;> rfl

/-- The MODE2 decoder inverts `Mode.bits` (R61). -/
theorem Mode.bits_of_ofBits {v : Nat} {m : Mode} (h : Mode.ofBits v = .ok m) : m.bits.toNat = v := by
  unfold Mode.ofBits at h
  split at h <;> cases h <;> rfl

theorem Mode.ofBits_bits (m : Mode) : Mode.ofBits m.bits.toNat = .ok m := by
  cases m <;> rfl

/-! ### What each decoder answers -/

theorem decodeRaw2_eq (v : Nat) :
    decodeRaw2 v = if v < 4 then .ok (RawOp.ofBits (BitVec.ofNat 2 v)).instr else .error .tooWide := rfl

theorem encode_of_decodeRaw2 {v : Nat} {i : Instr} (h : decodeRaw2 v = .ok i) : encode i = ⟨.raw2, v⟩ := by
  rw [decodeRaw2_eq] at h
  split at h
  case isTrue hfits =>
    cases h
    rw [RawOp.encode_instr, RawOp.bits_ofBits, BitVec.toNat_ofNat, Nat.mod_eq_of_lt hfits]
  case isFalse => cases h

theorem encode_of_decodeDigit4 {v : Nat} {i : Instr} (h : decodeDigit4 v = .ok i) : encode i = ⟨.digit4, v⟩ := by
  unfold decodeDigit4 at h
  split at h
  case isTrue => cases h; exact encode_digitInstr _
  case isFalse => split at h <;> cases h

/-- A mapped answer is the image of an answer. -/
theorem except_map_eq_ok {ε α β : Type} {f : α → β} {x : Except ε α} {b : β} (h : x.map f = .ok b) :
    ∃ a, x = .ok a ∧ f a = b := by
  cases x with
  | error e => cases h
  | ok a => cases h; exact ⟨a, rfl, rfl⟩

theorem encode_of_decode {w : InputWord} {i : Instr} (h : decode w = .ok i) : encode i = w := by
  obtain ⟨format, v⟩ := w
  cases format with
  | raw2 => exact encode_of_decodeRaw2 h
  | ps2 =>
    obtain ⟨ps, hps, rfl⟩ := except_map_eq_ok h
    rw [PowerState.encode_instr, PowerState.bits_of_ofBits hps]
  | mode2 =>
    obtain ⟨m, hm, rfl⟩ := except_map_eq_ok h
    rw [Mode.encode_instr, Mode.bits_of_ofBits hm]
  | digit4 => exact encode_of_decodeDigit4 h

/-- Every row's word is one the encodings allow, and decodes to the row. -/
theorem encode_roundTrip (i : Instr) : Laws.EncodingRoundTrip.Statement i := by
  cases i with
  | idle => exact Laws.EncodingRoundTrip.idle
  | down => exact Laws.EncodingRoundTrip.down
  | up => exact Laws.EncodingRoundTrip.up
  | both => exact Laws.EncodingRoundTrip.both
  | renderNormal => exact Laws.EncodingRoundTrip.renderNormal
  | renderDimmed => exact Laws.EncodingRoundTrip.renderDimmed
  | renderOff => exact Laws.EncodingRoundTrip.renderOff
  | modeRun => exact Laws.EncodingRoundTrip.modeRun
  | modeSleep => exact Laws.EncodingRoundTrip.modeSleep
  | modeSettle => exact Laws.EncodingRoundTrip.modeSettle
  | seg0 => exact Laws.EncodingRoundTrip.seg0
  | seg1 => exact Laws.EncodingRoundTrip.seg1
  | seg2 => exact Laws.EncodingRoundTrip.seg2
  | seg3 => exact Laws.EncodingRoundTrip.seg3
  | seg4 => exact Laws.EncodingRoundTrip.seg4
  | seg5 => exact Laws.EncodingRoundTrip.seg5
  | seg6 => exact Laws.EncodingRoundTrip.seg6
  | seg7 => exact Laws.EncodingRoundTrip.seg7
  | seg8 => exact Laws.EncodingRoundTrip.seg8
  | seg9 => exact Laws.EncodingRoundTrip.seg9

/-- Settles O1: forwards each format's decoder inverts its encoder, backwards the round trip of every row. -/
theorem decodeAgreesWithEncode : Obligations.DecodeAgreesWithEncode := by
  refine fun w i => ⟨encode_of_decode, ?_⟩
  rintro rfl
  exact (encode_roundTrip i).2

/-! ### The words that decode -/

/-- The defined values of a format all fit its width. -/
theorem Format.legalValues_le (f : Format) : f.legalValues ≤ 2 ^ f.width := by
  cases f <;> decide

theorem InputWord.wellFormed_iff (w : InputWord) : w.wellFormed = true ↔ w.value < w.format.legalValues := by
  have hle := w.format.legalValues_le
  simp only [InputWord.wellFormed, InputWord.fits, InputWord.defined, Bool.and_eq_true, decide_eq_true_eq]
  omega

theorem PowerState.ofBits_tooWide {v : Nat} (h : 4 ≤ v) : PowerState.ofBits v = .error .tooWide := by
  obtain ⟨k, rfl⟩ := Nat.exists_eq_add_of_le' h
  rfl

theorem Mode.ofBits_tooWide {v : Nat} (h : 4 ≤ v) : Mode.ofBits v = .error .tooWide := by
  obtain ⟨k, rfl⟩ := Nat.exists_eq_add_of_le' h
  rfl

/-- A word too wide for its format is rejected as such. -/
theorem decode_tooWide {w : InputWord} (h : 2 ^ w.format.width ≤ w.value) : decode w = .error .tooWide := by
  obtain ⟨format, v⟩ := w
  cases format with
  | raw2 => exact if_neg (Nat.not_lt.mpr h)
  | ps2 => exact congrArg (Except.map _) (PowerState.ofBits_tooWide h)
  | mode2 => exact congrArg (Except.map _) (Mode.ofBits_tooWide h)
  | digit4 =>
    have hwide : 16 ≤ v := h
    simp only [decode, decodeDigit4]
    rw [dif_neg (by omega), if_neg (by omega)]

/-- A defined value of each format decodes: by the cases of PS2 and MODE2, whose values are listed one by one. -/
theorem exists_decode_of_wellFormed {w : InputWord} (h : w.wellFormed = true) : ∃ i, decode w = .ok i := by
  rw [InputWord.wellFormed_iff] at h
  obtain ⟨format, v⟩ := w
  cases format with
  | raw2 => exact ⟨_, if_pos h⟩
  | ps2 =>
    match v, h with
    | 0, _ | 1, _ | 2, _ => exact ⟨_, rfl⟩
  | mode2 =>
    match v, h with
    | 0, _ | 1, _ | 2, _ => exact ⟨_, rfl⟩
  | digit4 => exact ⟨_, dif_pos h⟩

/-- Settles O2: a word that decodes is the well-formed word of its instruction, and each rejection by name. -/
theorem decodeAcceptsExactlyTheDefinedWords : Obligations.DecodeAcceptsExactlyTheDefinedWords := by
  refine fun w => ⟨⟨?defined, exists_decode_of_wellFormed⟩, decode_tooWide, ?ps2, ?mode2, ?digit4⟩
  case defined =>
    rintro ⟨i, hi⟩
    rw [← encode_of_decode hi]
    exact (encode_roundTrip i).1
  all_goals obtain ⟨format, v⟩ := w
  case ps2 => rintro rfl rfl; rfl
  case mode2 => rintro rfl rfl; rfl
  case digit4 =>
    rintro rfl (hten : 10 ≤ v) (hsixteen : v < 16)
    simp only [decode, decodeDigit4]
    rw [dif_neg (by omega), if_pos hsixteen]

/-- Settles O3: the decoder evaluated at each of the eight words. -/
theorem wordsOfEveryFormatDecode : Obligations.WordsOfEveryFormatDecode := by
  refine ⟨?_, ?_, ?_, ?_, ?_, ?_, ?_, ?_⟩ <;> rfl

end Sys2Proof

/-! The laws the statements below share: what every operation is and leaves, what a non-idle sample is, and the one state a
step can answer. -/

namespace Sys2Proof.Machine

/-! ### Every operation is an admitted effect that keeps the parameter record -/

theorem State.inMode_params {m : Mode} {f : State → State} (hf : ∀ s, (f s).params = s.params) (s : State) :
    (s.inMode m f).params = s.params := by
  unfold State.inMode
  split
  · exact hf s
  · rfl

theorem State.renderDigits_params (s : State) (a b : Micros) : (s.renderDigits a b).params = s.params := by
  rw [State.renderDigits_eq]

theorem State.iteration_params (s : State) : s.iteration.params = s.params := by
  by_cases hoff : s.sampled.wires.zeroRelease = true ∨ s.sampled.powerState = .off
  · obtain ⟨-, -, -, -, -, -, -, -, -, -, hparams⟩ := s.iteration_off_fields hoff
    exact hparams
  · obtain ⟨-, -, -, -, -, -, -, -, -, -, hparams⟩ := s.iteration_render_fields hoff
    exact hparams

theorem State.sleepStep_params (s : State) : s.sleepStep.params = s.params := by
  rw [State.sleepStep_eq]
  exact s.takePorts_params

theorem State.powerOn_params (s : State) : s.powerOn.params = s.params :=
  s.takePorts_params

/-- The meaning of every row of the opcode table: an effect that keeps the parameter record, performed where the state is
admitted. -/
theorem exec_guarded (i : Instr) :
    ∃ f : State → State, (∀ s, exec i s = s.guarded f) ∧ ∀ s, (f s).params = s.params := by
  cases i with
  | idle => exact ⟨_, fun _ => rfl, State.inMode_params State.sampleIdle_params⟩
  | down => exact ⟨_, fun _ => rfl, State.inMode_params fun s => s.sample_params .down⟩
  | up => exact ⟨_, fun _ => rfl, State.inMode_params fun s => s.sample_params .up⟩
  | both => exact ⟨_, fun _ => rfl, State.inMode_params fun s => s.sample_params .both⟩
  | renderNormal => exact ⟨_, fun _ => rfl, State.inMode_params fun s => s.renderDigits_params _ _⟩
  | renderDimmed => exact ⟨_, fun _ => rfl, State.inMode_params fun s => s.renderDigits_params _ _⟩
  | renderOff => exact ⟨_, fun _ => rfl, State.inMode_params State.sleepEnter_params⟩
  | modeRun => exact ⟨_, fun _ => rfl, State.inMode_params State.iteration_params⟩
  | modeSleep => exact ⟨_, fun _ => rfl, State.inMode_params State.sleepStep_params⟩
  | modeSettle => exact ⟨_, fun _ => rfl, State.inMode_params fun _ => rfl⟩
  | seg0 | seg1 | seg2 | seg3 | seg4 | seg5 | seg6 | seg7 | seg8 | seg9 =>
    exact ⟨_, fun _ => rfl, fun s => s.lookup_params _⟩

theorem exec_next_of_admissible (i : Instr) {s : State} (ha : s.admissible = true) : ∃ t, exec i s = .next t := by
  obtain ⟨f, hexec, -⟩ := exec_guarded i
  exact ⟨f s, by rw [hexec, s.guarded_of_admissible f ha]⟩

/-! ### The one state a step can answer -/

/-- The state a step answers where it is not refused: the reset, or the step of the mode (R145, R151). -/
def State.successor (s : State) : State :=
  if s.ports.rst then s.powerOn
  else
    match s.mode with
    | .run => s.iteration
    | .sleep => s.sleepStep
    | .settle => s.settleStep

theorem State.successor_reset {s : State} (hr : s.ports.rst = true) : s.successor = s.powerOn :=
  if_pos hr

theorem State.successor_run {s : State} (hr : s.ports.rst = false) (hm : s.mode = .run) :
    s.successor = s.iteration := by
  simp [State.successor, hr, hm]

theorem State.successor_sleep {s : State} (hr : s.ports.rst = false) (hm : s.mode = .sleep) :
    s.successor = s.sleepStep := by
  simp [State.successor, hr, hm]

theorem State.successor_settle {s : State} (hr : s.ports.rst = false) (hm : s.mode = .settle) :
    s.successor = s.settleStep := by
  simp [State.successor, hr, hm]

theorem step_next_successor {s t : State} (h : step s = .next t) : t = s.successor := by
  rcases step_cases h with ⟨hr, -, rfl⟩ | ⟨hr, -, ⟨hm, rfl⟩ | ⟨hm, rfl⟩ | ⟨hm, rfl⟩⟩
  · exact (State.successor_reset hr).symm
  · exact (State.successor_run hr hm).symm
  · exact (State.successor_sleep hr hm).symm
  · exact (State.successor_settle hr hm).symm

theorem step_of_admissible {s : State} (ha : s.admissible = true) : step s = .next s.successor := by
  cases hr : s.ports.rst with
  | true => rw [State.successor_reset hr, step_reset s hr (s.admissible_iff.mp ha).1]
  | false =>
    cases hm : s.mode with
    | run => rw [State.successor_run hr hm, step_run s hr ha hm]
    | sleep => rw [State.successor_sleep hr hm, step_sleep s hr ha hm]
    | settle => rw [State.successor_settle hr hm, step_settle s hr ha hm]

/-! ### A non-idle sample -/

/-- The transition a press of each operation makes (R77, R78, R79). -/
def RawOp.transition : RawOp → Count → Count
  | .idle => id
  | .down => countDown
  | .up => countUp
  | .both => id

/-- A non-idle sample is the one non-idle branch, with its value and its transition (R70). -/
theorem State.sample_eq_samplePress (s : State) {op : RawOp} (hop : op ≠ .idle) :
    s.sample op = s.samplePress op.bits (RawOp.transition op) := by
  cases op with
  | idle => exact absurd rfl hop
  | down | up | both => rfl

theorem State.sample_lastSample (s : State) {op : RawOp} (hop : op ≠ .idle) :
    (s.sample op).lastSample = op.bits := by
  rw [s.sample_eq_samplePress hop, State.samplePress_lastSample]

theorem State.sample_fire_of_ne_idle (s : State) {op : RawOp} (hop : op ≠ .idle) :
    (s.sample op).wires.fire = s.firesOn op.bits := by
  rw [s.sample_eq_samplePress hop, State.samplePress_wires]

/-- Without a fire a sample leaves the count as it was (R25). -/
theorem State.sample_count_of_not_fire (s : State) (op : RawOp) (hf : (s.sample op).wires.fire = false) :
    (s.sample op).count = s.count := by
  by_cases hop : op = .idle
  · subst hop
    rfl
  · rw [s.sample_fire_of_ne_idle hop] at hf
    rw [s.sample_eq_samplePress hop, State.samplePress_count, hf]
    rfl

/-- A sample leaves `countdown` in 1 to DEBOUNCE_COUNT: a decrement that reaches 0 is a fire, which reloads it (R37 (b)). -/
theorem State.sample_countdown_armed (s : State) (op : RawOp) (hN : 1 ≤ s.params.debounceCount)
    (h : 1 ≤ s.countdown ∧ s.countdown ≤ s.params.debounceCount) :
    1 ≤ (s.sample op).countdown ∧ (s.sample op).countdown ≤ s.params.debounceCount := by
  by_cases hop : op = .idle
  · subst hop
    exact ⟨hN, le_rfl⟩
  · rw [s.sample_eq_samplePress hop, s.samplePress_eq_of_pos _ _ h.1]
    dsimp only
    split
    case isTrue hmatch =>
      obtain ⟨-, -, hne⟩ := hmatch
      omega
    case isFalse => exact ⟨hN, le_rfl⟩

/-- After a sample that leaves a release pending, `countdown` is reloaded (R37 (c)). -/
theorem State.sample_countdown_held (s : State) (op : RawOp) (h : 1 ≤ s.countdown)
    (hp : (s.sample op).pendingRelease = true) : (s.sample op).countdown = s.params.debounceCount := by
  by_cases hop : op = .idle
  · subst hop
    rfl
  · rw [s.sample_eq_samplePress hop, s.samplePress_eq_of_pos _ _ h] at hp ⊢
    dsimp only at hp ⊢
    refine if_neg ?_
    rintro ⟨-, hnone, hne⟩
    simp [hnone, hne] at hp

end Sys2Proof.Machine

/-! The invariant R37 and the runs: reset meets it, every step keeps it, so that no execution ends (R36) and no operation
is refused on the way (R120). -/

namespace Sys2Proof.Machine

/-! ### The reset -/

/-- The reset registers of a legal record meet the invariant, whatever the environment's part. -/
theorem inv_afterReset {p : Params} (hp : p.legal = true) (lines : Levels) (stimuli : List Ports) (drawn : Nat) :
    Inv (State.afterReset p lines stimuli drawn) where
  params := hp
  count := Nat.zero_le _
  armed := ⟨((Params.legal_iff p).mp hp).1, le_rfl⟩
  held := fun _ => rfl
  activity := Nat.zero_le _
  wake := by simp [State.afterReset]
  dark := fun h => absurd rfl h
  select := rfl
  asleep := fun h => absurd rfl h

/-! ### The RUN iteration -/

theorem State.sampled_count_le {s : State} (h : Inv s) : s.sampled.count.toNat ≤ 99 :=
  State.sample_count_le _ _ (by rw [State.beginIteration_count]; exact h.count)

theorem State.sampled_countdown_armed {s : State} (h : Inv s) :
    1 ≤ s.sampled.countdown ∧ s.sampled.countdown ≤ s.params.debounceCount := by
  have hsample := s.beginIteration.sample_countdown_armed (RawOp.ofBits s.beginIteration.lines)
  simp only [State.beginIteration_params, State.beginIteration_countdown] at hsample
  exact hsample ((Params.legal_iff _).mp h.params).1 h.armed

theorem State.sampled_countdown_held {s : State} (h : Inv s) (hp : s.sampled.pendingRelease = true) :
    s.sampled.countdown = s.params.debounceCount := by
  have hsample := s.beginIteration.sample_countdown_held (RawOp.ofBits s.beginIteration.lines)
  simp only [State.beginIteration_params, State.beginIteration_countdown] at hsample
  exact hsample h.armed.1 hp

theorem inv_iteration_off {s : State} (h : Inv s)
    (hoff : s.sampled.wires.zeroRelease = true ∨ s.sampled.powerState = .off) : Inv s.iteration := by
  obtain ⟨hcount, -⟩ := s.iteration_outputs
  obtain ⟨hmode, hactivity, -, hseg, hsel, hwake, -, hcountdown, hpending, -, hparams⟩ := s.iteration_off_fields hoff
  exact {
    params := by rw [hparams]; exact h.params
    count := by rw [hcount]; exact State.sampled_count_le h
    armed := by rw [hcountdown, hparams]; exact State.sampled_countdown_armed h
    held := by rw [hpending, hcountdown, hparams]; exact State.sampled_countdown_held h
    activity := by rw [hactivity]; exact Nat.zero_le _
    wake := by simp [hwake, hmode]
    dark := fun _ => ⟨hseg, hsel⟩
    select := by rw [hsel]; exact selLegal_zero
    asleep := fun _ => hactivity }

/-- TICK stays at or below SHUTOFF_THRESHOLD, because the PowerState was not Off (R91, R93). -/
theorem State.iteration_activity_le {s : State}
    (hoff : ¬ (s.sampled.wires.zeroRelease = true ∨ s.sampled.powerState = .off)) :
    s.iteration.activity ≤ s.params.shutoffThreshold := by
  obtain ⟨-, hactivity, -⟩ := s.iteration_render_fields hoff
  have hbelow : ¬ s.params.shutoffThreshold ≤ s.sampled.activity := by
    rw [← powerState_off_iff, ← State.sampled_params]
    exact fun hps => hoff (.inr hps)
  rw [hactivity]
  split <;> omega

theorem inv_iteration_render {s : State} (h : Inv s) (hm : s.mode = .run)
    (hoff : ¬ (s.sampled.wires.zeroRelease = true ∨ s.sampled.powerState = .off)) : Inv s.iteration := by
  obtain ⟨hcount, -⟩ := s.iteration_outputs
  obtain ⟨hmode, -, -, hseg, hsel, hwake, -, hcountdown, hpending, -, hparams⟩ := s.iteration_render_fields hoff
  exact {
    params := by rw [hparams]; exact h.params
    count := by rw [hcount]; exact State.sampled_count_le h
    armed := by rw [hcountdown, hparams]; exact State.sampled_countdown_armed h
    held := by rw [hpending, hcountdown, hparams]; exact State.sampled_countdown_held h
    activity := by rw [hparams]; exact State.iteration_activity_le hoff
    wake := by rw [hwake, hmode]; exact h.wake
    dark := fun _ => ⟨hseg, hsel⟩
    select := by rw [hsel]; exact selLegal_zero
    asleep := fun hne => absurd (hmode.trans hm) hne }

/-! ### SLEEP and SETTLE -/

/-- In SLEEP the wake is enabled, so that the step is decided by the falling edge alone (R128, R130). -/
theorem Inv.sleepStep_eq {s : State} (h : Inv s) (hm : s.mode = .sleep) :
    s.sleepStep = { s.takePorts with
      wires := Wires.quiet
      wakeRef := s.ports.lines
      wakeEn := !fallingEdge s.wakeRef s.ports.lines
      mode := if fallingEdge s.wakeRef s.ports.lines then .settle else .sleep } := by
  have hwake : s.wakeEn = true := h.wake.mpr hm
  rw [State.sleepStep_eq, hwake, hm, Bool.true_and]
  cases fallingEdge s.wakeRef s.ports.lines <;> rfl

theorem inv_sleepStep {s : State} (h : Inv s) (hm : s.mode = .sleep) : Inv s.sleepStep := by
  have hne : s.mode ≠ .run := by rw [hm]; decide
  rw [h.sleepStep_eq hm]
  exact {
    params := by simpa using h.params
    count := by simpa using h.count
    armed := by simpa using h.armed
    held := by simpa using h.held
    activity := by simpa using h.activity
    wake := by cases fallingEdge s.wakeRef s.ports.lines <;> simp
    dark := fun _ => by simpa using h.dark hne
    select := by simpa using h.select
    asleep := fun _ => by simpa using h.asleep hne }

theorem inv_settleStep {s : State} (h : Inv s) (hm : s.mode = .settle) : Inv s.settleStep where
  params := h.params
  count := h.count
  armed := h.armed
  held := h.held
  activity := h.activity
  wake := by
    have hoff : s.wakeEn ≠ true := by simp [h.wake, hm]
    exact iff_of_false hoff fun hmode : Mode.run = .sleep => nomatch hmode
  dark := fun hne => absurd rfl hne
  select := h.select
  asleep := fun hne => absurd rfl hne

/-! ### Every step, and every run -/

theorem inv_step {s t : State} (h : Inv s) (hst : step s = .next t) : Inv t := by
  rcases step_cases hst with ⟨-, hl, rfl⟩ | ⟨-, -, ⟨hm, rfl⟩ | ⟨hm, rfl⟩ | ⟨hm, rfl⟩⟩
  · exact inv_afterReset (by rw [State.takePorts_params]; exact hl) _ _ _
  · by_cases hoff : s.sampled.wires.zeroRelease = true ∨ s.sampled.powerState = .off
    · exact inv_iteration_off h hoff
    · exact inv_iteration_render h hm hoff
  · exact inv_sleepStep h hm
  · exact inv_settleStep h hm

theorem exists_run_inv (k : Nat) {s : State} (h : Inv s) :
    ∃ t, Host.Core.run Sys2Proof.core k s = .next t ∧ Inv t := by
  induction k with
  | zero => exact ⟨s, rfl, h⟩
  | succ k ih =>
    obtain ⟨u, hrun, hu⟩ := ih
    have hstep := step_of_admissible hu.admissible
    exact ⟨_, (core_run_add_one k s u hrun).trans hstep, inv_step hu hstep⟩

theorem inv_of_run {k : Nat} {s t : State} (h : Inv s) (hrun : Host.Core.run Sys2Proof.core k s = .next t) : Inv t := by
  obtain ⟨u, hu, hinv⟩ := exists_run_inv k h
  rw [hu] at hrun
  cases hrun
  exact hinv

theorem inv_reset (ps : List Ports) : Inv { State.reset with stimuli := ps } :=
  inv_afterReset (p := nominal) (by decide) _ ps _

/-- Settles O43: a reset, an Off entry, a rendered iteration, a step of SLEEP and one of SETTLE each keep it. -/
theorem everyStepKeepsTheInvariant : Obligations.EveryStepKeepsTheInvariant :=
  fun _ _ => inv_step

/-- Settles O44, by induction on the number of steps: a state that meets the invariant is admissible, so it steps. -/
theorem everyExecutionIsInfiniteAndSafe : Obligations.EveryExecutionIsInfiniteAndSafe :=
  fun k _ => exists_run_inv k

/-- Settles O45: there is no fault to raise, and what reset reaches meets the invariant, so that nothing refuses it. -/
theorem noOperationFaults : Obligations.NoOperationFaults := by
  refine ⟨fun _ _ f => (nomatch f), fun ps k s hrun => ?_⟩
  have ha : s.admissible = true := (inv_of_run (inv_reset ps) hrun).admissible
  exact ⟨⟨_, step_of_admissible ha⟩, fun i => exec_next_of_admissible i ha⟩

/-- Settles O48: no successor, of a reset or of a mode, has another record. -/
theorem parameterRecordIsConstant : Obligations.ParameterRecordIsConstant := by
  intro s t h
  rcases step_cases h with ⟨-, -, rfl⟩ | ⟨-, -, ⟨-, rfl⟩ | ⟨-, rfl⟩ | ⟨-, rfl⟩⟩
  · exact s.powerOn_params
  · exact s.iteration_params
  · exact s.sleepStep_params
  · rfl

/-- A value up to `n` fits the least width of `n`. -/
theorem lt_two_pow_clog {a n : Nat} (h : a ≤ n) : a < 2 ^ Nat.clog 2 (n + 1) :=
  Nat.lt_of_lt_of_le (Nat.lt_succ_of_le h) (Nat.le_pow_clog (by decide) _)

/-- Settles O51: the invariant bounds both registers by the values whose widths these are. -/
theorem countersFitTheirWidths : Obligations.CountersFitTheirWidths := by
  intro s h
  obtain ⟨-, hcountdown⟩ := h.armed
  exact ⟨lt_two_pow_clog hcountdown, lt_two_pow_clog h.activity, fun _ => Nat.clog_le_of_le_pow,
    fun _ => Nat.clog_le_of_le_pow⟩

/-- Settles O40: the reset values of the nominal record. -/
theorem resetRegisters : Obligations.ResetRegisters := by
  refine ⟨?_, ?_, ?_, ?_, ?_, ?_, ?_, ?_, ?_⟩ <;> rfl

/-- Settles O41: the nominal record is legal. -/
theorem resetMeetsTheInvariant : Obligations.ResetMeetsTheInvariant := inv_reset

/-- Settles O42: the step is the power-on, which writes every register. -/
theorem resetFromAnyMode : Obligations.ResetFromAnyMode := by
  intro s hr hl
  have hparams := s.takePorts_params
  exact ⟨_, step_reset s hr hl, rfl, congrArg Params.debounceCount hparams, rfl,
    congrArg Params.lastSampleReset hparams, rfl, rfl, rfl, rfl, rfl, hparams, rfl⟩

end Sys2Proof.Machine

/-! The statements of 40_debounce_counter.md on sequences of samples: the presses (R82), the held press (R83), bounce (R84),
and what a step does to the count (R21, R25). -/

namespace Sys2Proof.Machine

/-! ### One sample -/

theorem RawOp.bits_injective {op op' : RawOp} (h : op.bits = op'.bits) : op = op' := by
  rw [← RawOp.ofBits_bits op, ← RawOp.ofBits_bits op', h]

/-- A matching sample above `countdown = 1` counts down and does nothing else (R74). -/
theorem State.sample_of_matching (s : State) {op : RawOp} (hop : op ≠ .idle) (hlast : s.lastSample = op.bits)
    (hnone : s.pendingRelease = false) (hc : 2 ≤ s.countdown) :
    (s.sample op).countdown = s.countdown - 1 ∧ (s.sample op).count = s.count ∧
      (s.sample op).pendingRelease = false ∧ (s.sample op).wires.fire = false := by
  have hne : s.countdown ≠ 1 := by omega
  rw [s.sample_eq_samplePress hop, s.samplePress_eq_of_pos _ _ (by omega)]
  simp [hlast, hnone, hne]

/-- A non-idle sample that does not match reloads `countdown` and leaves the rest (R75). -/
theorem State.sample_of_not_matching (s : State) {op : RawOp} (hop : op ≠ .idle)
    (hmatch : s.matching op.bits = false) :
    (s.sample op).countdown = s.params.debounceCount ∧ (s.sample op).count = s.count ∧
      (s.sample op).pendingRelease = s.pendingRelease ∧ (s.sample op).wires.fire = false := by
  have hfires : s.firesOn op.bits = false := by rw [State.firesOn, hmatch, Bool.false_and]
  rw [s.sample_eq_samplePress hop]
  simp [hmatch, hfires]

/-- Settles O7: IDLE's four writes, with the parameter's value put in. -/
theorem idleStoresItsSampleUnderTheParameter : Obligations.IdleStoresItsSampleUnderTheParameter := by
  intro s ha hm hstores
  rw [show Instr.idle = RawOp.idle.instr from rfl, exec_rawOp s .idle ha hm]
  simp [State.sample, State.sampleIdle, hstores, State.idleZeroRelease_eq]

/-- Settles O12: every branch stores the sample, and a fire needs a match with the value stored before. -/
theorem nonIdleSampleStoresItself : Obligations.NonIdleSampleStoresItself := by
  intro s op ha hm hop
  refine ⟨_, exec_rawOp s op ha hm, s.sample_lastSample hop, fun hf => ?_⟩
  rw [s.sample_fire_of_ne_idle hop, State.firesOn_iff, State.matching_iff] at hf
  obtain ⟨⟨hlast, -⟩, -⟩ := hf
  exact hlast.symm

/-- Settles O11: the fire leaves a release pending, so IDLE's event is the test of the count; after UP it is at least 1, and
after BOTH it is the count before. -/
theorem idleAfterAFireTestsTheCount : Obligations.IdleAfterAFireTestsTheCount := by
  intro s t op hop hm h hf
  obtain ⟨ha, rfl⟩ := exec_rawOp_next hm h
  have hevent : ((s.sample op).sample .idle).wires.zeroRelease = decide ((s.sample op).count.toNat = 0) := by
    rw [State.sample_zeroRelease, State.idleZeroRelease_eq, s.sample_pendingRelease_of_fire op hf]
    simp
  have hcount := s.sample_count_of_fire op hf
  refine ⟨_, exec_rawOp _ .idle (s.sample_admissible op ha) (by rw [State.sample_mode, hm]), ?iff, ?up, ?both⟩
  case iff => rw [hevent, decide_eq_true_iff]
  case up =>
    rintro rfl
    rw [hevent, hcount, decide_eq_false_iff_not, sampleTransition]
    omega
  case both =>
    rintro rfl hzero
    rw [hevent, hcount, decide_eq_true_iff]
    exact hzero

/-! ### The count and the events of a step -/

theorem State.sampled_eq (s : State) : s.sampled = s.beginIteration.sample s.nextOp := by
  rw [State.sampled, State.beginIteration_lines, State.nextOp]

theorem State.nextOp_bits (s : State) : s.nextOp.bits = s.ports.lines :=
  RawOp.bits_ofBits _

/-- A fire of an iteration: no release pending, the levels stored before, and `countdown` 1 (R74, R76). -/
theorem State.sampled_fire {s : State} (hc : 1 ≤ s.countdown) (hf : s.sampled.wires.fire = true) :
    s.nextOp ≠ .idle ∧ s.pendingRelease = false ∧ s.lastSample = s.ports.lines ∧ s.countdown = 1 ∧
      s.sampled.count.toNat = sampleTransition s.nextOp s.count.toNat := by
  rw [s.sampled_eq] at hf ⊢
  have hcount := State.sample_count_of_fire _ _ hf
  rw [State.beginIteration_count] at hcount
  rw [State.sample_fire, Bool.and_eq_true_iff, s.nextOp_bits,
    State.firesOn_iff_of_pos _ _ (by rw [State.beginIteration_countdown]; exact hc)] at hf
  obtain ⟨hop, hlast, hnone, hone⟩ := hf
  simp only [State.beginIteration_lastSample, State.beginIteration_pendingRelease,
    State.beginIteration_countdown] at hlast hnone hone
  exact ⟨bne_iff_ne.mp hop, hnone, hlast.symm, hone, hcount⟩

/-- Settles O13: only the sample of an iteration writes the count, only at a fire, and by its transition, which moves a
count of 0 to 99 by at most one. -/
theorem countChangesOnlyAtAFire : Obligations.CountChangesOnlyAtAFire := by
  intro s t hinv h hr hne
  rcases step_cases h with ⟨hrst, -⟩ | ⟨-, -, ⟨hm, rfl⟩ | ⟨-, rfl⟩ | ⟨-, rfl⟩⟩
  · rw [hr] at hrst
    cases hrst
  · obtain ⟨hcount, hfire, -⟩ := s.iteration_outputs
    have hf : s.sampled.wires.fire = true := by
      by_contra hno
      have hsame := State.sample_count_of_not_fire _ _ (Bool.not_eq_true _ ▸ hno)
      exact hne (hcount.trans (hsame.trans s.beginIteration_count))
    obtain ⟨hop, hnone, hlast, hone, hmove⟩ := State.sampled_fire hinv.armed.1 hf
    refine ⟨hm, hnone, hlast, hone, hfire.trans hf, ?_⟩
    rw [← hcount] at hmove
    have hchanged : s.iteration.count.toNat ≠ s.count.toNat := fun e => hne (BitVec.eq_of_toNat_eq e)
    have hle := hinv.count
    cases hnext : s.nextOp <;> rw [hnext] at hmove <;> simp only [sampleTransition] at hmove
    case idle => exact absurd hnext hop
    case down => exact .inl ⟨rfl, by omega⟩
    case up => exact .inr ⟨rfl, by omega⟩
    case both => exact absurd hmove hchanged
  · exact absurd (by rw [State.sleepStep_eq]; exact s.takePorts_count) hne
  · exact absurd rfl hne

/-- Settles O14: only an iteration shows events, and they are those of its one sample. -/
theorem fireExcludesZeroRelease : Obligations.FireExcludesZeroRelease := by
  rintro s t h ⟨hf, hz⟩
  rcases step_cases h with ⟨-, -, rfl⟩ | ⟨-, -, ⟨-, rfl⟩ | ⟨-, rfl⟩ | ⟨-, rfl⟩⟩
  · cases hf
  · obtain ⟨-, hfire, hzero, -⟩ := s.iteration_outputs
    exact State.sample_fire_zeroRelease _ _ ⟨hfire ▸ hf, hzero ▸ hz⟩
  · rw [State.sleepStep_eq] at hf
    cases hf
  · cases hf

/-! ### Runs of equal samples -/

/-- From a state that holds the sample's value with no release pending, `k + 1` equal samples fire exactly where they use
`countdown` up. -/
theorem foldl_sample_of_matching {op : RawOp} (hop : op ≠ .idle) (k : Nat) {s : State}
    (hlast : s.lastSample = op.bits) (hnone : s.pendingRelease = false) (hk : k + 1 ≤ s.countdown) :
    ((List.replicate (k + 1) op).foldl State.sample s).lastSample = op.bits ∧
      (((List.replicate (k + 1) op).foldl State.sample s).wires.fire = true ↔ k + 1 = s.countdown) ∧
      ((List.replicate (k + 1) op).foldl State.sample s).count.toNat =
        if k + 1 = s.countdown then sampleTransition op s.count.toNat else s.count.toNat := by
  induction k generalizing s with
  | zero =>
    have hfire : (s.sample op).wires.fire = true ↔ 0 + 1 = s.countdown := by
      rw [s.sample_fire_of_ne_idle hop, s.firesOn_iff_of_pos _ hk]
      simp [hlast, hnone, eq_comm]
    refine ⟨s.sample_lastSample hop, hfire, ?_⟩
    split
    case isTrue hone => exact s.sample_count_of_fire op (hfire.mpr hone)
    case isFalse hne =>
      exact congrArg BitVec.toNat (s.sample_count_of_not_fire op (Bool.eq_false_iff.mpr (hne ∘ hfire.mp)))
  | succ k ih =>
    obtain ⟨hcountdown, hcount, hstill, -⟩ := s.sample_of_matching hop hlast hnone (by omega)
    have hrest := ih (s.sample_lastSample hop) hstill (by omega)
    have hlength : k + 1 = (s.sample op).countdown ↔ k + 1 + 1 = s.countdown := by omega
    rw [hcount] at hrest
    rw [List.replicate_succ, List.foldl_cons]
    simpa only [hlength] using hrest

/-- Settles O15: the last sample that fires is the one that uses `countdown` up; where `lastSample` holds another value, the
first sample stores its own and reloads. -/
theorem pressFiresAtItsNthMatchingSample : Obligations.PressFiresAtItsNthMatchingSample := by
  intro s op k ha hm hop hnone hreloaded hk hle
  obtain ⟨j, rfl⟩ := Nat.exists_eq_add_of_le' hk
  refine ⟨_, by rw [← List.map_replicate, execAll_rawOps _ s ha hm], ?_⟩
  by_cases hlast : s.lastSample = op.bits
  · simp only [if_pos hlast, Nat.add_zero, ← hreloaded] at hle ⊢
    exact foldl_sample_of_matching hop j hlast hnone hle
  · obtain ⟨hN, -⟩ := (Params.legal_iff _).mp (s.admissible_iff.mp ha).1
    have hmatch : s.matching op.bits = false := by
      rw [Bool.eq_false_iff, Ne, State.matching_iff]
      exact fun h => hlast h.1.symm
    obtain ⟨hcountdown, hcount, hstill, hquiet⟩ := s.sample_of_not_matching hop hmatch
    simp only [if_neg hlast] at hle ⊢
    cases j with
    | zero =>
      have hshort : 0 + 1 ≠ s.params.debounceCount + 1 := by omega
      rw [if_neg hshort]
      exact ⟨s.sample_lastSample hop, iff_of_false (Bool.eq_false_iff.mp hquiet) hshort, congrArg BitVec.toNat hcount⟩
    | succ j =>
      have hrest := foldl_sample_of_matching hop j (s.sample_lastSample hop) (hstill.trans hnone)
        (by rw [hcountdown]; omega)
      rw [hcount, hcountdown] at hrest
      rw [List.replicate_succ, List.foldl_cons]
      simpa only [Nat.add_right_cancel_iff] using hrest

/-! ### The held press -/

theorem foldl_sample_of_pending (ops : List RawOp) {s : State} (hp : s.pendingRelease = true)
    (hops : ∀ op ∈ ops, op ≠ .idle) :
    (ops.foldl State.sample s).count = s.count ∧ (ops.foldl State.sample s).pendingRelease = true ∧
      (ops.foldl State.sample s).activity = s.activity ∧
      (ops ≠ [] → (ops.foldl State.sample s).wires.fire = false) := by
  induction ops generalizing s with
  | nil => exact ⟨rfl, hp, rfl, fun hne => absurd rfl hne⟩
  | cons op ops ih =>
    obtain ⟨hop, hrest⟩ := List.forall_mem_cons.mp hops
    obtain ⟨hfire, hcount, hstill⟩ := s.sample_of_pending op hop hp
    have hactivity : (s.sample op).activity = s.activity := by
      rw [State.sample_activity, hfire]
      rfl
    obtain ⟨hcount', hstill', hactivity', hfire'⟩ := ih hstill hrest
    refine ⟨hcount'.trans hcount, hstill', hactivity'.trans hactivity, fun _ => ?_⟩
    cases ops with
    | nil => exact hfire
    | cons op' ops => exact hfire' (List.cons_ne_nil _ _)

/-- Settles O16, by induction on the list: each sample leaves the release pending. -/
theorem heldPressNeverCountsAgain : Obligations.HeldPressNeverCountsAgain :=
  fun s ops ha hm hp hops => ⟨_, execAll_rawOps ops s ha hm, foldl_sample_of_pending ops hp hops⟩

/-! ### Bounce -/

/-- No `N` consecutive samples are equal and non-idle (R84). -/
def NoLongPress (N : Nat) (ops : List RawOp) : Prop :=
  ∀ op, op ≠ .idle → ¬ (List.replicate N op <:+: ops)

theorem NoLongPress.of_infix {N : Nat} {ops ops' : List RawOp} (h : NoLongPress N ops) (hin : ops' <:+: ops) :
    NoLongPress N ops' :=
  fun op hop hrun => h op hop (hrun.trans hin)

/-- `countdown` has counted the last `m` samples down, all of them `held`, and has not reached 0 (R74). -/
structure HeldFor (s : State) (held : RawOp) (m : Nat) : Prop where
  counted : s.countdown + m = s.params.debounceCount
  armed   : 1 ≤ s.countdown
  last    : 0 < m → s.lastSample = held.bits

theorem heldFor_zero {s : State} (held : RawOp) (hc : s.countdown = s.params.debounceCount)
    (hN : 1 ≤ s.params.debounceCount) : HeldFor s held 0 where
  counted := hc
  armed := hc ▸ hN
  last := fun h => absurd h (Nat.lt_irrefl 0)

/-- A sample that equals the stored one lengthens the press it continues. -/
theorem HeldFor.replicate_append {s : State} {held op : RawOp} {m : Nat} (h : HeldFor s held m)
    (hlast : s.lastSample = op.bits) (ops : List RawOp) :
    List.replicate m held ++ op :: ops = List.replicate (m + 1) op ++ ops := by
  cases m with
  | zero => rfl
  | succ m =>
    have hheld : held = op := RawOp.bits_injective ((h.last (Nat.succ_pos m)).symm.trans hlast)
    rw [hheld, List.replicate_succ' (n := m + 1), List.append_assoc]
    rfl

/-- The next sample of a sequence without a long press does not fire: a match makes the press one longer, anything else
ends it. -/
theorem HeldFor.sample {s : State} {held op : RawOp} {m : Nat} {ops : List RawOp} (h : HeldFor s held m)
    (hshort : NoLongPress s.params.debounceCount (List.replicate m held ++ op :: ops)) :
    (s.sample op).wires.fire = false ∧
      ∃ held' m', HeldFor (s.sample op) held' m' ∧
        NoLongPress s.params.debounceCount (List.replicate m' held' ++ ops) := by
  have hN : 1 ≤ s.params.debounceCount := by
    have hcounted := h.counted
    have harmed := h.armed
    omega
  have hrest : NoLongPress s.params.debounceCount ops :=
    hshort.of_infix ⟨List.replicate m held ++ [op], [], by simp⟩
  by_cases hop : op = .idle
  · subst hop
    exact ⟨rfl, .idle, 0, heldFor_zero _ rfl hN, hrest⟩
  · cases hmatch : s.matching op.bits with
    | true =>
      obtain ⟨hlast, hnone⟩ := (s.matching_iff _).mp hmatch
      rw [h.replicate_append hlast.symm] at hshort
      have hlong : m + 1 ≠ s.params.debounceCount := by
        intro hlong
        rw [hlong] at hshort
        exact hshort op hop (List.prefix_append _ ops).isInfix
      have hcounted := h.counted
      have harmed := h.armed
      obtain ⟨hcountdown, -, -, hfire⟩ := s.sample_of_matching hop hlast.symm hnone (by omega)
      refine ⟨hfire, op, m + 1, ⟨?_, by omega, fun _ => s.sample_lastSample hop⟩, hshort⟩
      rw [State.sample_params]
      omega
    | false =>
      obtain ⟨hcountdown, -, -, hfire⟩ := s.sample_of_not_matching hop hmatch
      have hreloaded : (s.sample op).countdown = (s.sample op).params.debounceCount := by
        rw [hcountdown, State.sample_params]
      exact ⟨hfire, op, 0, heldFor_zero op hreloaded (by rwa [State.sample_params]), hrest⟩

theorem foldl_sample_of_noLongPress (ops : List RawOp) {s : State} {held : RawOp} {m : Nat} (h : HeldFor s held m)
    (hshort : NoLongPress s.params.debounceCount (List.replicate m held ++ ops)) :
    (ops.foldl State.sample s).count = s.count ∧ (ops.foldl State.sample s).activity = s.activity ∧
      (ops ≠ [] → (ops.foldl State.sample s).wires.fire = false) := by
  induction ops generalizing s held m with
  | nil => exact ⟨rfl, rfl, fun hne => absurd rfl hne⟩
  | cons op ops ih =>
    obtain ⟨hfire, held', m', hheld, hrest⟩ := h.sample hshort
    have hactivity : (s.sample op).activity = s.activity := by
      rw [State.sample_activity, hfire]
      rfl
    obtain ⟨hcount', hactivity', hfire'⟩ := ih hheld (by rwa [State.sample_params])
    refine ⟨hcount'.trans (s.sample_count_of_not_fire op hfire), hactivity'.trans hactivity, fun _ => ?_⟩
    cases ops with
    | nil => exact hfire
    | cons op' ops => exact hfire' (List.cons_ne_nil _ _)

/-- Settles O17: `countdown` counts the press down, and no press is long enough to use it up. -/
theorem bounceIsRejected : Obligations.BounceIsRejected := by
  intro s ops ha hm hreloaded hshort
  obtain ⟨hN, -⟩ := (Params.legal_iff _).mp (s.admissible_iff.mp ha).1
  exact ⟨_, execAll_rawOps ops s ha hm, foldl_sample_of_noLongPress ops (heldFor_zero .idle hreloaded hN) hshort⟩

end Sys2Proof.Machine

/-! The statements on the step as a composition (R150, R151), on what is performed and what is refused, and on single
operations of the display and of the modes. -/

namespace Sys2Proof.Machine

/-! ### Admission -/

theorem State.guarded_illegalParameters {s : State} (f : State → State) (hl : s.params.legal = false) :
    s.guarded f = .refused .illegalParameters :=
  if_pos hl

theorem State.guarded_unreachableCount {s : State} (f : State → State) (hl : s.params.legal = true)
    (hc : 99 < s.count.toNat) : s.guarded f = .refused .unreachableCount := by
  simp [State.guarded, hl, hc]

theorem State.guarded_unreachableSelect {s : State} (f : State → State) (hl : s.params.legal = true)
    (hc : s.count.toNat ≤ 99) (hs : selLegal s.sel = false) : s.guarded f = .refused .unreachableSelect := by
  simp [State.guarded, hl, hs, Nat.not_lt.mpr hc]

theorem State.guarded_inMode_self {s : State} {m : Mode} (f : State → State) (ha : s.admissible = true)
    (hm : s.mode = m) : s.guarded (State.inMode m f) = .next (f s) := by
  rw [s.guarded_of_admissible _ ha, s.inMode_self m f hm]

theorem State.guarded_inMode_other {s : State} {m : Mode} (f : State → State) (ha : s.admissible = true)
    (hm : s.mode ≠ m) : s.guarded (State.inMode m f) = .next s := by
  rw [s.guarded_of_admissible _ ha, s.inMode_other m f hm]

theorem step_illegalParameters {s : State} (hl : s.params.legal = false) :
    step s = .refused .illegalParameters := by
  obtain ⟨f, hexec, -⟩ := exec_guarded s.sequenced
  rw [step, hexec, State.guarded_illegalParameters f hl, State.takeReset, if_pos hl, ite_self]

/-- Settles O46: each of these rows is its operation tied to its mode. -/
theorem operationsArePerformedOnlyInTheirMode : Obligations.OperationsArePerformedOnlyInTheirMode := by
  refine fun s ha => ⟨fun hm => ?_, State.guarded_inMode_other _ ha, State.guarded_inMode_other _ ha⟩
  have hother (f : State → State) : s.guarded (State.inMode .run f) = .next s := State.guarded_inMode_other f ha hm
  exact ⟨hother _, hother _, hother _, hother _, hother _, hother _, hother _, hother _⟩

/-- Settles O47: every row is an admitted effect, and the admission tests these three in this order. -/
theorem illegalRecordsAndEncodingsAreRefused : Obligations.IllegalRecordsAndEncodingsAreRefused := by
  intro s i
  obtain ⟨f, hexec, -⟩ := exec_guarded i
  rw [hexec]
  refine ⟨fun hl => ⟨State.guarded_illegalParameters f hl, step_illegalParameters hl⟩,
    State.guarded_unreachableCount f, State.guarded_unreachableSelect f, fun hl hc hs => ?_⟩
  exact ⟨_, s.guarded_of_admissible f (s.admissible_iff.mpr ⟨hl, hc, hs⟩)⟩

/-! ### The step and the iteration -/

theorem decode_mode_bits (m : Mode) : decode ⟨.mode2, m.bits.toNat⟩ = .ok m.instr :=
  congrArg (Except.map Mode.instr) m.ofBits_bits

/-- Settles O4: the mode register's bits decode to the row of its mode. -/
theorem stepRunsTheDecodedMode : Obligations.StepRunsTheDecodedMode := by
  intro s i hr hi
  rw [decode_mode_bits] at hi
  cases hi
  rw [step, hr]
  rfl

theorem exec_modeRun {s : State} (ha : s.admissible = true) (hm : s.mode = .run) :
    exec .modeRun s = .next s.iteration :=
  State.guarded_inMode_self _ ha hm

theorem exec_modeSleep {s : State} (ha : s.admissible = true) (hm : s.mode = .sleep) :
    exec .modeSleep s = .next s.sleepStep :=
  State.guarded_inMode_self _ ha hm

theorem State.select_admissible {s : State} (ha : s.admissible = true) : s.select.admissible = true := ha

/-- COLOR and SELECT as one record, the Color on natural numbers (R91, R100). -/
theorem State.select_eq (s : State) :
    s.select = { s with wires := { s.wires with
      color := some (if s.count.toNat = 1 then .green else .red)
      power := some (Machine.powerState s.params s.activity) } } := by
  rw [← colorOf_eq]
  rfl

theorem State.sampled_slots (s : State) : s.sampled.wires.slots = [] := by
  rw [State.sampled, State.sample_slots, State.beginIteration_wires]
  rfl

theorem State.sampled_lines (s : State) : s.sampled.lines = s.ports.lines := by
  rw [State.sampled, State.sample_lines, State.beginIteration_lines]

/-- The Off entry as one record (R126). -/
theorem State.sleepEnter_eq (s : State) :
    s.sleepEnter = { s with
      seg := 0
      sel := 0
      activity := 0
      wakeRef := s.lines
      wakeEn := true
      mode := .sleep
      wires := { s.wires with slots := s.wires.slots ++ [⟨0, 0, 0⟩] } } := rfl

theorem State.render_fire (s : State) (ps : PowerState) : (s.render ps).wires.fire = s.wires.fire := by
  by_cases hps : ps = .off
  · subst hps
    rfl
  · rw [s.render_eq ps hps, State.renderDigits_eq]

/-- Settles O5: the sample runs on the begun iteration, and the Off entry or the render on that sample's state with COLOR
and SELECT shown. -/
theorem runIterationComposesItsOperations : Obligations.RunIterationComposesItsOperations := by
  intro s ha hm
  have hrun : s.sampled.mode = .run := s.sampled_mode.trans hm
  have hselected := State.select_admissible (s.sampled_admissible ha)
  refine ⟨s.sampled, s.sampled.select, ?sample, s.sampled.select_eq, fun hoff => ?off, fun hoff => ?render⟩
  case sample =>
    rw [← State.beginIteration_eq, s.sampled_eq]
    exact exec_rawOp _ _ (s.beginIteration_admissible ha) (s.beginIteration_mode.trans hm)
  case off =>
    refine ⟨_, exec_powerState _ .off hselected hrun, ?_, ?_⟩
    · rw [exec_modeRun ha hm, s.iteration_off hoff]
      rfl
    · rw [State.render, State.sleepEnter_eq, State.select_lines, s.sampled_lines, State.select_wires, s.sampled_slots]
      rfl
  case render =>
    refine ⟨_, exec_powerState _ _ hselected hrun, ?_⟩
    rw [exec_modeRun ha hm, s.iteration_render hoff, State.tick_eq, State.render_fire]
    rfl

/-! ### The renders and the lookup -/

/-- Settles O25: the four values, and the bit of each; above bit 3 no bit of a 4-bit value is set. -/
theorem selectValuesAreOneHot : Obligations.SelectValuesAreOneHot := by
  refine ⟨rfl, rfl, rfl, rfl, fun p c => ?_⟩
  have honeHot : ∃ i < 4, ∀ j < 4, (selv p c).getLsbD j = decide (j = i) := by
    cases p <;> cases c <;> decide
  obtain ⟨i, hi, hbits⟩ := honeHot
  refine ⟨i, hi, fun j => ?_⟩
  by_cases hj : j < 4
  · exact hbits j hj
  · have hne : j ≠ i := by omega
    rw [BitVec.getLsbD_of_ge _ j (by omega), decide_eq_false hne]

theorem unitsDigit_eq {c : Count} {u : Digit} (hu : u.val = c.toNat % 10) : unitsDigit c = u :=
  Fin.ext ((unitsDigit_val c).trans hu.symm)

theorem tensDigit_eq {c : Count} {v : Digit} (hc : c.toNat ≤ 99) (hv : v.val = c.toNat / 10) : tensDigit c = v :=
  Fin.ext ((tensDigit_val c hc).trans hv.symm)

/-- From 10 up the Color is Red (R100). -/
theorem colorOf_red_of_ten_le {c : Count} (h : 10 ≤ c.toNat) : colorOf c = .red := by
  rw [colorOf_eq, if_neg (by omega)]

/-- The four slots of a render of the count `c` with units digit `u` and tens digit `v` (R112, R114). -/
def digitSlots (p : Params) (c : Count) (u v : Digit) (afterUnits afterTens : Micros) : List Slot :=
  [⟨segRom p u, selv .units (if c.toNat = 1 then .green else .red), p.tDigit⟩, ⟨0, 0, afterUnits⟩,
    if 10 ≤ c.toNat then ⟨segRom p v, selv .tens .red, p.tDigit⟩ else ⟨0, 0, p.tDigit⟩, ⟨0, 0, afterTens⟩]

theorem digitSlots_eq {p : Params} {c : Count} {u v : Digit} (hc : c.toNat ≤ 99) (hu : u.val = c.toNat % 10)
    (hv : v.val = c.toNat / 10) (a b : Micros) :
    [⟨segRom p (unitsDigit c), selv .units (colorOf c), p.tDigit⟩, ⟨0, 0, a⟩,
      if 10 ≤ c.toNat then ⟨segRom p (tensDigit c), selv .tens (colorOf c), p.tDigit⟩ else ⟨0, 0, p.tDigit⟩,
      ⟨0, 0, b⟩] = digitSlots p c u v a b := by
  rw [unitsDigit_eq hu, tensDigit_eq hc hv, digitSlots]
  by_cases hten : 10 ≤ c.toNat
  · rw [if_pos hten, if_pos hten, colorOf_red_of_ten_le hten, if_neg (by omega)]
  · rw [if_neg hten, if_neg hten, colorOf_eq]

/-- A render with the digits named by their values. -/
theorem State.renderDigits_digits {s : State} {u v : Digit} (hc : s.count.toNat ≤ 99)
    (hu : u.val = s.count.toNat % 10) (hv : v.val = s.count.toNat / 10) (a b : Micros) :
    s.renderDigits a b = { s with
      seg := 0
      sel := 0
      wires := { s.wires with
        rom := some (segRom s.params (if 10 ≤ s.count.toNat then v else u))
        slots := s.wires.slots ++ digitSlots s.params s.count u v a b } } := by
  rw [State.renderDigits_eq, digitSlots_eq hc hu hv, unitsDigit_eq hu, tensDigit_eq hc hv]

/-- Settles O26: the render on its own, and as the PowerState Normal selects it in an iteration. -/
theorem renderNormalEmitsItsFourSlots : Obligations.RenderNormalEmitsItsFourSlots := by
  refine ⟨fun s u v ha hm hu hv => ?alone, fun s t u v hr hm h hpower hzero hu hv => ?selected⟩
  case alone =>
    obtain ⟨-, hc, -⟩ := s.admissible_iff.mp ha
    rw [show Instr.renderNormal = PowerState.normal.instr from rfl, exec_powerState s .normal ha hm]
    exact congrArg _ (State.renderDigits_digits hc hu hv _ _)
  case selected =>
    obtain ⟨ha, rfl⟩ := step_run_next h hr hm
    obtain ⟨hcount, -, hzero', -, hpower'⟩ := s.iteration_outputs
    have hnormal : s.sampled.powerState = .normal := Option.some.inj (hpower'.symm.trans hpower)
    have hoff : ¬ (s.sampled.wires.zeroRelease = true ∨ s.sampled.powerState = .off) := by
      simp [← hzero', hzero, hnormal]
    obtain ⟨-, -, hslots, hseg, hsel, -⟩ := s.iteration_render_fields hoff
    obtain ⟨-, hc, -⟩ := (State.admissible_iff _).mp (s.sampled_admissible ha)
    rw [hcount] at hu hv ⊢
    rw [digitSlots_eq hc hu hv, hnormal] at hslots
    exact ⟨hseg, hsel, hslots⟩

/-- Settles O27: the same slots, with the blank times of the Dimmed render. -/
theorem renderDimmedAddsDarkTime : Obligations.RenderDimmedAddsDarkTime := by
  intro s u v ha hm hu hv
  obtain ⟨-, hc, -⟩ := s.admissible_iff.mp ha
  rw [show Instr.renderDimmed = PowerState.dimmed.instr from rfl, exec_powerState s .dimmed ha hm]
  exact congrArg _ (State.renderDigits_digits hc hu hv _ _)

/-- Settles O28: RENDER_OFF is the Off entry. -/
theorem renderOffEntersSleep : Obligations.RenderOffEntersSleep :=
  fun _ ha hm => State.guarded_inMode_self _ ha hm

/-- Settles O29: every operation keeps the record, and each of the ten rows is one lookup. -/
theorem segRomReadsItsRow : Obligations.SegRomReadsItsRow := by
  refine ⟨fun i s t h => ?table, fun s ha => ?rows⟩
  case table =>
    obtain ⟨f, hexec, hparams⟩ := exec_guarded i
    rw [hexec, State.guarded_next_iff] at h
    obtain ⟨-, rfl⟩ := h
    rw [hparams]
  case rows =>
    have hread (d : Digit) : s.guarded (fun t => t.lookup d) = .next (s.lookup d) := s.guarded_of_admissible _ ha
    exact ⟨hread 0, hread 1, hread 2, hread 3, hread 4, hread 5, hread 6, hread 7, hread 8, hread 9⟩

/-! ### SLEEP and SETTLE -/

/-- Settles O35: the step of SLEEP as one record, with its test written out line by line. -/
theorem sleepExaminesTheLines : Obligations.SleepExaminesTheLines := by
  intro s ha hm
  rw [← fallingEdge_iff, ← Bool.and_eq_true_iff, exec_modeSleep ha hm, State.sleepStep_eq]
  refine ⟨fun hedge => ?wakes, fun hedge => ?stays⟩
  case wakes => rw [if_pos hedge, if_pos hedge]
  case stays =>
    rw [if_neg hedge, if_neg hedge, ← s.takePorts_wakeEn, ← s.takePorts_mode]

/-- Settles O37: SETTLE is RESUME on quiet wires. -/
theorem settleReturnsToRun : Obligations.SettleReturnsToRun :=
  fun _ ha hm => State.guarded_inMode_self _ ha hm

end Sys2Proof.Machine

/-! The statements of 41_inactivity_timer.md, 42_display_renderer.md and 60_exceptions.md on every step: `activity`, the
slots, SLEEP and the wake. -/

namespace Sys2Proof.Machine

/-! ### `activity` -/

/-- TICK in one equation (R93): cleared at a fire or with a cause of the Off entry, else one more. -/
theorem State.iteration_activity (s : State) :
    s.iteration.activity =
      if s.sampled.wires.fire = true ∨ s.sampled.wires.zeroRelease = true ∨ s.sampled.powerState = .off then 0
      else s.activity + 1 := by
  by_cases hoff : s.sampled.wires.zeroRelease = true ∨ s.sampled.powerState = .off
  · obtain ⟨-, hactivity, -⟩ := s.iteration_off_fields hoff
    rw [hactivity, if_pos (.inr hoff)]
  · obtain ⟨-, hactivity, -⟩ := s.iteration_render_fields hoff
    rw [hactivity, s.sampled_activity]
    cases s.sampled.wires.fire <;> simp [hoff]

/-- The Off entry is the only way an iteration leaves RUN (R125). -/
theorem State.iteration_mode {s : State} (hm : s.mode = .run) :
    s.iteration.mode = .sleep ↔ s.sampled.wires.zeroRelease = true ∨ s.sampled.powerState = .off := by
  by_cases hoff : s.sampled.wires.zeroRelease = true ∨ s.sampled.powerState = .off
  · obtain ⟨hsleep, -⟩ := s.iteration_off_fields hoff
    exact iff_of_true hsleep hoff
  · obtain ⟨hsame, -⟩ := s.iteration_render_fields hoff
    exact iff_of_false (by rw [hsame, hm]; decide) hoff

/-- With a fire the PowerState is Normal, because SELECT sees `activity` 0, and no cause of the Off entry holds (R92,
R134). -/
theorem State.sampled_of_fire {s : State} (hp : s.params.legal = true) (hf : s.sampled.wires.fire = true) :
    s.sampled.powerState = .normal ∧ ¬ (s.sampled.wires.zeroRelease = true ∨ s.sampled.powerState = .off) := by
  obtain ⟨hnormal, -⟩ := powerState_corners_of_legal hp
  have hps : s.sampled.powerState = .normal := by
    rw [State.sampled_powerState, if_pos hf, hnormal]
  refine ⟨hps, ?_⟩
  rintro (hzero | hoff)
  · exact State.sample_fire_zeroRelease _ _ ⟨hf, hzero⟩
  · rw [hps] at hoff
    cases hoff

/-- How long the slots of a Normal or Dimmed render last together (R104, R116). -/
theorem slotDurations_sum (p : Params) (ps : PowerState) :
    (slotDurations p ps).sum =
      2 * p.tDigit + (if ps = .dimmed then 2 * p.tDim else 0) + 2 * p.tGap + p.tLoop := by
  unfold slotDurations
  split <;> simp only [List.sum_cons, List.sum_nil] <;> ring

/-- A RUN step that ends in RUN shows four slots, and they last as its PowerState says. -/
theorem step_run_slotTime {s t : State} {ps : PowerState} (h : step s = .next t) (hr : s.ports.rst = false)
    (hm : s.mode = .run) (hrun : t.mode = .run) (hpower : t.wires.power = some ps) :
    t.wires.slots.length = 4 ∧
      slotTime t.wires.slots =
        2 * s.params.tDigit + (if ps = .dimmed then 2 * s.params.tDim else 0) + 2 * s.params.tGap + s.params.tLoop := by
  obtain ⟨ps', hpower', hdur, -⟩ := step_run_render_slots h hr hm hrun
  obtain rfl : ps' = ps := Option.some.inj (hpower'.symm.trans hpower)
  constructor
  · rw [← List.length_map (f := Slot.dur), hdur]
    rfl
  · rw [slotTime, hdur, slotDurations_sum]

/-- Settles O19: the wire shows SELECT on the sampled state; at a fire that is Normal, and the iteration renders. -/
theorem selectSeesActivityAfterTheSample : Obligations.SelectSeesActivityAfterTheSample := by
  intro s t hr hm h
  obtain ⟨ha, rfl⟩ := step_run_next h hr hm
  obtain ⟨-, hfire, -, -, hpower⟩ := s.iteration_outputs
  refine ⟨by rw [hpower, State.sampled_powerState, hfire], fun hf => ?_⟩
  obtain ⟨hnormal, hoff⟩ := State.sampled_of_fire (s.admissible_iff.mp ha).1 (hfire ▸ hf)
  obtain ⟨hmode, -⟩ := s.iteration_render_fields hoff
  rw [hnormal] at hpower
  have hrun : s.iteration.mode = .run := hmode.trans hm
  obtain ⟨hlength, htime⟩ := step_run_slotTime h hr hm hrun hpower
  rw [if_neg (by decide), add_zero] at htime
  exact ⟨hpower, hrun, hlength, htime⟩

/-- Settles O20: the wires of the iteration are those of its sample. -/
theorem activityTicksOncePerIteration : Obligations.ActivityTicksOncePerIteration := by
  intro s t hr hm h
  obtain ⟨-, rfl⟩ := step_run_next h hr hm
  obtain ⟨-, hfire, hzero, -, hpower⟩ := s.iteration_outputs
  simp only [hfire, hzero, hpower, Option.some_inj]
  exact s.iteration_activity

/-- Settles O21: a reset writes 0, an iteration clears at a fire and at the Off entry and else counts, and SLEEP and SETTLE
leave `activity`. -/
theorem activityClearedByExactlyThreeThings : Obligations.ActivityClearedByExactlyThreeThings := by
  intro s t h
  rcases step_cases h with ⟨hr, -, rfl⟩ | ⟨hr, -, ⟨hm, rfl⟩ | ⟨hm, rfl⟩ | ⟨hm, rfl⟩⟩
  · exact ⟨fun _ => rfl, fun hnone => absurd (.inl hr) hnone⟩
  · obtain ⟨-, hfire, -⟩ := s.iteration_outputs
    have hclears : s.ports.rst = true ∨ s.iteration.wires.fire = true ∨ (s.mode = .run ∧ s.iteration.mode = .sleep) ↔
        s.sampled.wires.fire = true ∨ s.sampled.wires.zeroRelease = true ∨ s.sampled.powerState = .off := by
      simp [hr, hm, hfire, State.iteration_mode hm]
    rw [hclears, State.iteration_activity]
    exact ⟨fun hclear => if_pos hclear,
      fun hno => ⟨fun _ => by rw [if_neg hno]; exact Nat.succ_ne_zero _, fun hne => absurd hm hne⟩⟩
  · simp [hr, hm, State.sleepStep_eq, Wires.quiet]
  · simp [hr, hm, State.settleStep_eq, Wires.quiet]

/-- A quiet iteration counts `activity` on, or takes the Off entry at SHUTOFF_THRESHOLD (R93, R96). -/
theorem State.iteration_quiet {s : State} (hm : s.mode = .run) (hf : s.iteration.wires.fire = false)
    (hz : s.iteration.wires.zeroRelease = false) :
    s.iteration.wires.power = some (Machine.powerState s.params s.activity) ∧
      (s.activity < s.params.shutoffThreshold → s.iteration.mode = .run ∧ s.iteration.activity = s.activity + 1) ∧
      (s.params.shutoffThreshold ≤ s.activity → s.iteration.mode = .sleep ∧ s.iteration.activity = 0) := by
  obtain ⟨-, hfire, hzero, -, hpower⟩ := s.iteration_outputs
  rw [hfire] at hf
  rw [hzero] at hz
  have hps : s.sampled.powerState = Machine.powerState s.params s.activity := by
    rw [State.sampled_powerState, hf]
    rfl
  have hcause : (s.sampled.wires.zeroRelease = true ∨ s.sampled.powerState = .off) ↔
      s.params.shutoffThreshold ≤ s.activity := by
    rw [hz, hps, powerState_off_iff]
    simp
  have hactivity := s.iteration_activity
  simp only [hf, Bool.false_eq_true, false_or, hcause] at hactivity
  refine ⟨hpower.trans (congrArg some hps), fun hbelow => ?_, fun habove => ?_⟩
  · have hnot := Nat.not_le.mpr hbelow
    obtain ⟨hsame, -⟩ := s.iteration_render_fields (mt hcause.mp hnot)
    exact ⟨hsame.trans hm, hactivity.trans (if_neg hnot)⟩
  · exact ⟨(State.iteration_mode hm).mpr (hcause.mpr habove), hactivity.trans (if_pos habove)⟩

/-- No reset, no fire and no `zero_release` in the first `k` steps of the run from `s` (R96). -/
structure QuietFor (s : State) (k : Nat) : Prop where
  noReset : ∀ (j : Nat) (u : State), j < k → Host.Core.run Sys2Proof.core j s = .next u → u.ports.rst = false
  noEvent : ∀ (j : Nat) (u : State), 1 ≤ j → j ≤ k → Host.Core.run Sys2Proof.core j s = .next u →
    u.wires.fire = false ∧ u.wires.zeroRelease = false

theorem QuietFor.of_succ {s : State} {k : Nat} (h : QuietFor s (k + 1)) : QuietFor s k where
  noReset := fun j u hj => h.noReset j u (by omega)
  noEvent := fun j u hone hj => h.noEvent j u hone (by omega)

/-- The last step of a quiet run from RUN is a quiet iteration. -/
theorem QuietFor.iteration {s u : State} {k : Nat} (h : QuietFor s (k + 1))
    (hrun : Host.Core.run Sys2Proof.core k s = .next u) (ha : u.admissible = true) (hm : u.mode = .run) :
    Host.Core.run Sys2Proof.core (k + 1) s = .next u.iteration ∧
      u.iteration.wires.fire = false ∧ u.iteration.wires.zeroRelease = false := by
  have hlast : Host.Core.run Sys2Proof.core (k + 1) s = .next u.iteration :=
    (core_run_add_one k s u hrun).trans (step_run u (h.noReset k u (Nat.lt_succ_self k) hrun) ha hm)
  exact ⟨hlast, h.noEvent (k + 1) _ (Nat.succ_pos k) le_rfl hlast⟩

/-- Up to SHUTOFF_THRESHOLD a quiet run from `activity` 0 stays in RUN, and `activity` counts its steps. -/
theorem run_quiet {s : State} (hinv : Inv s) (hm : s.mode = .run) (hzero : s.activity = 0) (k : Nat)
    (hk : k ≤ s.params.shutoffThreshold) (hquiet : QuietFor s k) :
    ∃ u, Host.Core.run Sys2Proof.core k s = .next u ∧ u.mode = .run ∧ u.activity = k ∧ u.params = s.params := by
  induction k with
  | zero => exact ⟨s, rfl, hm, hzero, rfl⟩
  | succ k ih =>
    obtain ⟨u, hrun, hmode, hactivity, hparams⟩ := ih (by omega) hquiet.of_succ
    obtain ⟨hlast, hfire, hrelease⟩ := hquiet.iteration hrun (inv_of_run hinv hrun).admissible hmode
    obtain ⟨-, hcounts, -⟩ := State.iteration_quiet hmode hfire hrelease
    obtain ⟨hmode', hactivity'⟩ := hcounts (by rw [hactivity, hparams]; omega)
    exact ⟨_, hlast, hmode', by rw [hactivity', hactivity], u.iteration_params.trans hparams⟩

/-- Settles O22: iteration `k` is the quiet iteration after `k - 1` of them, which left `activity` at `k - 1`. -/
theorem quietIterationsDimThenShutOff : Obligations.QuietIterationsDimThenShutOff := by
  intro s k hinv hm hzero hone hk hreset hevent
  obtain ⟨j, rfl⟩ := Nat.exists_eq_add_of_le' hone
  have hquiet : QuietFor s (j + 1) := ⟨hreset, hevent⟩
  obtain ⟨u, hrun, hmode, hactivity, hparams⟩ := run_quiet hinv hm hzero j (by omega) hquiet.of_succ
  obtain ⟨hlast, hfire, hrelease⟩ := hquiet.iteration hrun (inv_of_run hinv hrun).admissible hmode
  obtain ⟨hpower, hcounts, hsleeps⟩ := State.iteration_quiet hmode hfire hrelease
  rw [hparams, hactivity] at hpower hcounts hsleeps
  exact ⟨_, hlast, hpower, fun hle => hcounts (by omega), fun hlast => hsleeps (by omega)⟩

/-! ### The display -/

/-- The slots of a step: of an iteration, one blank one or the four of a render; of any other step, none. -/
theorem step_slots {s t : State} (h : step s = .next t) :
    t.wires.slots = [] ∨ t.wires.slots = [⟨0, 0, 0⟩] ∨
      ∃ a b, t.wires.slots =
        [⟨segRom t.params (unitsDigit t.count), selv .units (colorOf t.count), t.params.tDigit⟩, ⟨0, 0, a⟩,
          thirdSlot t.params t.count, ⟨0, 0, b⟩] := by
  rcases step_cases h with ⟨-, -, rfl⟩ | ⟨-, -, ⟨-, rfl⟩ | ⟨-, rfl⟩ | ⟨-, rfl⟩⟩
  · exact .inl rfl
  · by_cases hoff : s.sampled.wires.zeroRelease = true ∨ s.sampled.powerState = .off
    · obtain ⟨-, -, hslots, -⟩ := s.iteration_off_fields hoff
      exact .inr (.inl hslots)
    · obtain ⟨hcount, -⟩ := s.iteration_outputs
      obtain ⟨-, -, hslots, -⟩ := s.iteration_render_fields hoff
      rw [hcount, s.iteration_params]
      exact .inr (.inr ⟨_, _, hslots⟩)
  · exact .inl (by rw [State.sleepStep_eq]; rfl)
  · exact .inl rfl

/-- The third slot is blank, or lights the tens digit from 10 up (R103, R110). -/
theorem thirdSlot_isBlank_or_lights (p : Params) (c : Count) :
    (thirdSlot p c).isBlank ∨ (10 ≤ c.toNat ∧ (thirdSlot p c).lights p .tens (tensDigit c) (colorOf c)) := by
  unfold thirdSlot
  split
  case isTrue hten => exact .inr ⟨hten, rfl, rfl⟩
  case isFalse => exact .inl ⟨rfl, rfl⟩

/-- Settles O31: slot by slot of the two shapes a step can show. -/
theorem everySlotIsBlankOrOneDigit : Obligations.EverySlotIsBlankOrOneDigit := by
  intro s t h x hx
  rcases step_slots h with hslots | hslots | ⟨a, b, hslots⟩ <;> rw [hslots] at hx
  · cases hx
  · obtain rfl := List.mem_singleton.mp hx
    exact .inl ⟨rfl, rfl⟩
  · simp only [List.mem_cons, List.not_mem_nil, or_false] at hx
    obtain rfl | rfl | rfl | rfl := hx
    · exact .inr (.inl ⟨rfl, rfl⟩)
    · exact .inl ⟨rfl, rfl⟩
    · exact (thirdSlot_isBlank_or_lights _ _).imp_right .inr
    · exact .inl ⟨rfl, rfl⟩

/-- Settles O32: the sum of the durations, at the two PowerStates. -/
theorem iterationTimeByPowerState : Obligations.IterationTimeByPowerState := by
  refine fun s t hr hm h hrun => ⟨fun hnormal => ?_, fun hdimmed => ?_⟩
  · obtain ⟨-, htime⟩ := step_run_slotTime h hr hm hrun hnormal
    rwa [if_neg (by decide), add_zero] at htime
  · obtain ⟨-, htime⟩ := step_run_slotTime h hr hm hrun hdimmed
    rwa [if_pos rfl] at htime

theorem State.iteration_dark (s : State) : s.iteration.seg = 0 ∧ s.iteration.sel = 0 := by
  by_cases hoff : s.sampled.wires.zeroRelease = true ∨ s.sampled.powerState = .off
  · obtain ⟨-, -, -, hseg, hsel, -⟩ := s.iteration_off_fields hoff
    exact ⟨hseg, hsel⟩
  · obtain ⟨-, -, -, hseg, hsel, -⟩ := s.iteration_render_fields hoff
    exact ⟨hseg, hsel⟩

/-- Settles O33: a reset and an iteration blank the outputs, and outside RUN they were blank before. -/
theorem displayIsDarkAfterEveryStep : Obligations.DisplayIsDarkAfterEveryStep := by
  intro s t hinv h
  rcases step_cases h with ⟨-, -, rfl⟩ | ⟨-, -, ⟨-, rfl⟩ | ⟨hm, rfl⟩ | ⟨hm, rfl⟩⟩
  · exact ⟨rfl, rfl⟩
  · exact s.iteration_dark
  · exact (inv_step hinv h).dark (by rw [hinv.sleepStep_eq hm]; dsimp only; split <;> decide)
  · exact hinv.dark (by rw [hm]; decide)

/-- Settles O34: the wires name the causes, SELECT names the threshold, and the Off entry emits one slot. -/
theorem offEntryExactlyOnItsCauses : Obligations.OffEntryExactlyOnItsCauses := by
  intro s t hr hm h
  obtain ⟨-, rfl⟩ := step_run_next h hr hm
  obtain ⟨-, hfire, hzero, -, hpower⟩ := s.iteration_outputs
  rw [hfire, hzero, hpower, Option.some_inj]
  refine ⟨State.iteration_mode hm, by rw [State.sampled_powerState, powerState_off_iff], fun hsleep => ?_⟩
  obtain ⟨-, -, hslots, -⟩ := s.iteration_off_fields ((State.iteration_mode hm).mp hsleep)
  exact hslots

/-! ### SLEEP and the wake -/

/-- Settles O36: the step of SLEEP writes the wake reference, the wake enable and the mode only. -/
theorem sleepIsLeftOnlyByTheWake : Obligations.SleepIsLeftOnlyByTheWake := by
  intro s hinv hm hr
  obtain ⟨hseg, hsel⟩ := hinv.dark (by rw [hm]; decide)
  refine ⟨beq_iff_eq.mpr hm, _, step_sleep s hr hinv.admissible hm, ?_⟩
  rw [hinv.sleepStep_eq hm]
  refine ⟨s.takePorts_count, s.takePorts_countdown, s.takePorts_pendingRelease, s.takePorts_lastSample,
    s.takePorts_activity, s.takePorts_seg.trans hseg, s.takePorts_sel.trans hsel, rfl, fun hedge => if_pos hedge,
    fun hedge => ?_⟩
  rw [hedge]
  exact ⟨rfl, rfl⟩

/-- The step of SLEEP at a falling edge, with its stimulus used up (R128, R130). -/
theorem State.sleepStep_wake {s : State} {lv : Levels} {rest : List Ports} (hen : s.wakeEn = true)
    (hstimuli : s.stimuli = ⟨false, lv⟩ :: rest) (hedge : fallingEdge s.wakeRef lv = true) :
    s.sleepStep = { s with
      lines := lv
      stimuli := rest
      wires := Wires.quiet
      wakeRef := lv
      wakeEn := false
      mode := .settle } := by
  rw [State.sleepStep_eq]
  simp [State.takePorts, State.ports, hstimuli, hen, hedge]

/-- Settles O38: the wake leads to SETTLE with the next stimulus listed first, and RESUME takes none. -/
theorem wakeAndSettleKeepTheDebounceState : Obligations.WakeAndSettleKeepTheDebounceState := by
  intro s lv next rest hinv hm hstimuli hedge
  have hports : s.ports = ⟨false, lv⟩ := by rw [State.ports, hstimuli]
  have hwake : step s = .next s.sleepStep := step_sleep s (by rw [hports]) hinv.admissible hm
  have hadmissible := (inv_step hinv hwake).admissible
  rw [State.sleepStep_wake (hinv.wake.mpr hm) hstimuli hedge] at hwake hadmissible
  have hone : Host.Core.run Sys2Proof.core 1 s = .next _ := (core_run_add_one 0 s s rfl).trans hwake
  have hresume := (core_run_add_one 1 s _ hone).trans (step_settle _ rfl hadmissible rfl)
  have hactivity : s.activity = 0 := hinv.asleep (by rw [hm]; decide)
  exact ⟨_, hresume, rfl, rfl, hactivity, rfl, rfl, rfl, rfl, rfl, rfl⟩

theorem step_wake_next {s t : State} {lv : Levels} {rest : List Ports} (h : step s = .next t) (hm : s.mode = .sleep)
    (hen : s.wakeEn = true) (hstimuli : s.stimuli = ⟨false, lv⟩ :: rest) (hedge : fallingEdge s.wakeRef lv = true) :
    t = { s with
      lines := lv
      stimuli := rest
      wires := Wires.quiet
      wakeRef := lv
      wakeEn := false
      mode := .settle } := by
  have hports : s.ports = ⟨false, lv⟩ := by rw [State.ports, hstimuli]
  rw [step_next_successor h, State.successor_sleep (by rw [hports]) hm, State.sleepStep_wake hen hstimuli hedge]

/-- Settles O39: both steps are the wake, which loads the levels of its own change and nothing else of them. -/
theorem wakingLineIsNotRecorded : Obligations.WakingLineIsNotRecorded := by
  intro s t₁ t₂ lv₁ lv₂ rest hm hen hedge₁ hedge₂ h₁ h₂
  rw [step_wake_next h₁ hm hen rfl hedge₁, step_wake_next h₂ hm hen rfl hedge₂]

end Sys2Proof.Machine

/-! What a step does not depend on: the pin variant (R118) and, in its registers and events, the durations (R16). Both are
statements on a step under another parameter record. -/

namespace Sys2Proof.Machine

/-! ### A step under another record -/

/-- The state with another parameter record. -/
def State.withParams (s : State) (p : Params) : State := { s with params := p }

/-- Records that agree on the parameters the registers depend on (R9 to R11, R15). -/
structure SameControl (p q : Params) : Prop where
  debounceCount    : p.debounceCount = q.debounceCount
  dimThreshold     : p.dimThreshold = q.dimThreshold
  shutoffThreshold : p.shutoffThreshold = q.shutoffThreshold
  lastSampleReset  : p.lastSampleReset = q.lastSampleReset
  idleUpdatesLast  : p.idleUpdatesLast = q.idleUpdatesLast

theorem SameControl.powerState_eq {p q : Params} (h : SameControl p q) (a : Nat) : powerState p a = powerState q a := by
  rw [powerState, powerState, h.shutoffThreshold, h.dimThreshold]

theorem State.takePorts_withParams (s : State) (p : Params) :
    (s.withParams p).takePorts = s.takePorts.withParams p := by
  cases hstimuli : s.stimuli <;> simp [State.takePorts, State.withParams, hstimuli]

theorem State.beginIteration_withParams (s : State) (p : Params) :
    (s.withParams p).beginIteration = s.beginIteration.withParams p := by
  rw [State.beginIteration_eq, State.beginIteration_eq, State.takePorts_withParams]
  rfl

theorem State.powerOn_withParams {s : State} {p : Params} (h : SameControl p s.params) :
    (s.withParams p).powerOn = s.powerOn.withParams p := by
  simp only [State.powerOn, State.takePorts_withParams]
  simp [State.withParams, State.afterReset, h.debounceCount, h.lastSampleReset]

theorem State.sleepStep_withParams (s : State) (p : Params) :
    (s.withParams p).sleepStep = s.sleepStep.withParams p := by
  rw [State.sleepStep_eq, State.sleepStep_eq, State.takePorts_withParams]
  rfl

/-- A sample reads DEBOUNCE_COUNT and IDLE_UPDATES_LAST of the record, and nothing else. -/
theorem State.sample_withParams {s : State} {p : Params} (h : SameControl p s.params) (op : RawOp) :
    (s.withParams p).sample op = (s.sample op).withParams p := by
  by_cases hop : op = .idle
  · subst hop
    simp [State.sample, State.sampleIdle, State.withParams, State.idleZeroRelease, h.debounceCount, h.idleUpdatesLast]
  · have hless : (s.withParams p).countdownLessOne = s.countdownLessOne := by
      simp [State.countdownLessOne, State.withParams, h.debounceCount]
    have hmatch : (s.withParams p).matching op.bits = s.matching op.bits := rfl
    have hfires : (s.withParams p).firesOn op.bits = s.firesOn op.bits := by
      rw [State.firesOn, State.firesOn, hless, hmatch]
    rw [State.sample_eq_samplePress _ hop, State.sample_eq_samplePress _ hop, State.samplePress, State.samplePress,
      hfires, hmatch, hless]
    cases s.firesOn op.bits <;> cases s.matching op.bits <;>
      simp [State.withParams, State.acceptPress, h.debounceCount]

theorem State.sampled_withParams {s : State} {p : Params} (h : SameControl p s.params) :
    (s.withParams p).sampled = s.sampled.withParams p := by
  rw [State.sampled_eq, State.sampled_eq, State.beginIteration_withParams,
    State.sample_withParams (by rw [State.beginIteration_params]; exact h)]
  rfl

theorem State.sampled_powerState_withParams {s : State} {p : Params} (h : SameControl p s.params) :
    (s.sampled.withParams p).powerState = s.sampled.powerState := by
  rw [State.powerState, State.powerState, s.sampled_params]
  exact h.powerState_eq _

/-! ### The pin variant -/

/-- The state with another pin map in its record. -/
def State.withPinVariant (s : State) (v : PinVariant) : State := s.withParams { s.params with pinVariant := v }

theorem sameControl_pinVariant (p : Params) (v : PinVariant) : SameControl { p with pinVariant := v } p :=
  ⟨rfl, rfl, rfl, rfl, rfl⟩

theorem State.sampled_withPinVariant (s : State) (v : PinVariant) :
    (s.withPinVariant v).sampled = s.sampled.withPinVariant v := by
  rw [State.withPinVariant, State.sampled_withParams (sameControl_pinVariant s.params v), State.withPinVariant,
    s.sampled_params]

theorem State.renderDigits_withPinVariant (s : State) (v : PinVariant) (a b : Micros) :
    (s.withPinVariant v).renderDigits a b = (s.renderDigits a b).withPinVariant v := by
  rw [State.renderDigits_eq, State.renderDigits_eq]
  rfl

theorem State.render_withPinVariant (s : State) (v : PinVariant) (ps : PowerState) :
    (s.withPinVariant v).render ps = (s.render ps).withPinVariant v := by
  cases ps with
  | normal | dimmed => exact s.renderDigits_withPinVariant v _ _
  | off => rfl

theorem State.tick_withPinVariant (s : State) (v : PinVariant) :
    (s.withPinVariant v).tick = s.tick.withPinVariant v := by
  rw [State.tick_eq, State.tick_eq]
  rfl

theorem State.iteration_withPinVariant (s : State) (v : PinVariant) :
    (s.withPinVariant v).iteration = s.iteration.withPinVariant v := by
  have hsampled := s.sampled_withPinVariant v
  have hselect : (s.sampled.withPinVariant v).select = s.sampled.select.withPinVariant v := rfl
  by_cases hoff : s.sampled.wires.zeroRelease = true ∨ s.sampled.powerState = .off
  · rw [s.iteration_off hoff, State.iteration_off _ (by rw [hsampled]; exact hoff), hsampled, hselect]
    rfl
  · rw [s.iteration_render hoff, State.iteration_render _ (by rw [hsampled]; exact hoff), hsampled, hselect,
      State.render_withPinVariant, State.tick_withPinVariant]
    rfl

theorem State.powerOn_withPinVariant (s : State) (v : PinVariant) :
    (s.withPinVariant v).powerOn = s.powerOn.withPinVariant v := by
  rw [State.withPinVariant, State.powerOn_withParams (sameControl_pinVariant s.params v), State.withPinVariant,
    s.powerOn_params]

theorem State.sleepStep_withPinVariant (s : State) (v : PinVariant) :
    (s.withPinVariant v).sleepStep = s.sleepStep.withPinVariant v := by
  rw [State.withPinVariant, State.sleepStep_withParams, State.withPinVariant, s.sleepStep_params]

/-- Settles O49: no operation reads the pin variant. -/
theorem pinVariantHasNoEffect : Obligations.PinVariantHasNoEffect := by
  intro s t v h
  change step (s.withPinVariant v) = .next (t.withPinVariant v)
  rcases step_cases h with ⟨hr, hl, rfl⟩ | ⟨hr, ha, ⟨hm, rfl⟩ | ⟨hm, rfl⟩ | ⟨hm, rfl⟩⟩
  · rw [step_reset (s.withPinVariant v) hr hl, s.powerOn_withPinVariant]
  · rw [step_run (s.withPinVariant v) hr ha hm, s.iteration_withPinVariant]
  · rw [step_sleep (s.withPinVariant v) hr ha hm, s.sleepStep_withPinVariant]
  · exact step_settle (s.withPinVariant v) hr ha hm

/-! ### The durations -/

/-- The same registers, events, Color and PowerState. -/
def SameRegisters (t₁ t₂ : State) : Prop :=
  t₂.count = t₁.count ∧ t₂.countdown = t₁.countdown ∧ t₂.pendingRelease = t₁.pendingRelease ∧
    t₂.lastSample = t₁.lastSample ∧ t₂.activity = t₁.activity ∧ t₂.mode = t₁.mode ∧ t₂.wakeEn = t₁.wakeEn ∧
    t₂.wakeRef = t₁.wakeRef ∧ t₂.seg = t₁.seg ∧ t₂.sel = t₁.sel ∧ t₂.wires.fire = t₁.wires.fire ∧
    t₂.wires.zeroRelease = t₁.wires.zeroRelease ∧ t₂.wires.color = t₁.wires.color ∧ t₂.wires.power = t₁.wires.power

theorem sameRegisters_withParams (t : State) (p : Params) : SameRegisters t (t.withParams p) :=
  ⟨rfl, rfl, rfl, rfl, rfl, rfl, rfl, rfl, rfl, rfl, rfl, rfl, rfl, rfl⟩

/-- The registers and events of an iteration are those of its sample, its Off entry and its TICK, none of which reads a
duration; a render writes the slots and `rom`, and blanks the outputs. -/
theorem sameRegisters_iteration {s : State} {p : Params} (h : SameControl p s.params) :
    SameRegisters s.iteration (s.withParams p).iteration := by
  have hsampled := State.sampled_withParams h
  have hpower := State.sampled_powerState_withParams h
  by_cases hoff : s.sampled.wires.zeroRelease = true ∨ s.sampled.powerState = .off
  · rw [s.iteration_off hoff, State.iteration_off _ (by rw [hsampled, hpower]; exact hoff), hsampled]
    exact ⟨rfl, rfl, rfl, rfl, rfl, rfl, rfl, rfl, rfl, rfl, rfl, rfl, rfl, congrArg some hpower⟩
  · rw [s.iteration_render hoff, State.iteration_render _ (by rw [hsampled, hpower]; exact hoff), hsampled, hpower,
      State.tick_eq, State.tick_eq, State.render_eq _ _ fun e => hoff (.inr e),
      State.render_eq _ _ fun e => hoff (.inr e), State.renderDigits_eq, State.renderDigits_eq]
    exact ⟨rfl, rfl, rfl, rfl, rfl, rfl, rfl, rfl, rfl, rfl, rfl, rfl, rfl, congrArg some hpower⟩

/-- A step under a record with the same control parameters answers the same registers. -/
theorem sameRegisters_successor {s : State} {p : Params} (h : SameControl p s.params) :
    SameRegisters s.successor (s.withParams p).successor := by
  cases hr : s.ports.rst with
  | true =>
    rw [State.successor_reset hr, State.successor_reset (s := s.withParams p) hr, State.powerOn_withParams h]
    exact sameRegisters_withParams _ _
  | false =>
    cases hm : s.mode with
    | run =>
      rw [State.successor_run hr hm, State.successor_run (s := s.withParams p) hr hm]
      exact sameRegisters_iteration h
    | sleep =>
      rw [State.successor_sleep hr hm, State.successor_sleep (s := s.withParams p) hr hm, State.sleepStep_withParams]
      exact sameRegisters_withParams _ _
    | settle =>
      rw [State.successor_settle hr hm, State.successor_settle (s := s.withParams p) hr hm]
      exact sameRegisters_withParams s.settleStep p

/-- Settles O50: records that differ in the durations only have the same control parameters. -/
theorem durationsDoNotReachTheRegisters : Obligations.DurationsDoNotReachTheRegisters := by
  intro s t₁ t₂ d₁ d₂ d₃ d₄ d₅ h₁ h₂
  rw [step_next_successor h₁, step_next_successor h₂]
  exact sameRegisters_successor ⟨rfl, rfl, rfl, rfl, rfl⟩

end Sys2Proof.Machine
